-- ==== Sys2Proof/Word.lean ====
section
/-! DEFINITION. The two word types of the hardware (00_scope.md R8): a byte is 8 bits, a word is 16 bits. -/

namespace Sys2Proof

/-- A byte, 8 bits; also the contents of an 8-bit register (R8, R20). -/
abbrev Byte := BitVec 8

/-- A word, 16 bits: PC, SP, the register pairs and every address of the CPU (R8, R20, R70). -/
abbrev Word := BitVec 16

end Sys2Proof
end

