-- ==== Sys2Proof/Machine/Bits.lean ====
section
/-! DEFINITION. The bit-field, byte-order and sign-extension helpers of the notation (00_scope.md R8, R9, R11). -/

namespace Sys2Proof.Machine

/-- `{hi, lo}`: the word whose bits 15:8 are `hi` and bits 7:0 are `lo` (R8). -/
def wordOf (hi lo : Byte) : Word := hi ++ lo

/-- `w[15:8]` (R8). -/
def hiByte (w : Word) : Byte := w.extractLsb' 8 8

/-- `w[7:0]` (R8). -/
def loByte (w : Word) : Byte := w.extractLsb' 0 8

/-- `sext_16(b)`: `b` if `b < 128`, else `b + 0xFF00` (R9). -/
def sext16 (b : Byte) : Word := b.signExtend 16

/-- `zext_16(b)` (R9). -/
def zext16 (b : Byte) : Word := b.setWidth 16

/-- The 3-bit field `v[5:3]`, the field `y` of an opcode byte (30_encoding.md R162). -/
def fieldY (v : Byte) : Nat := (v.extractLsb' 3 3).toNat

/-- The 3-bit field `v[2:0]`, the field `z` of an opcode byte (R162). -/
def fieldZ (v : Byte) : Nat := (v.extractLsb' 0 3).toNat

/-- The 2-bit field `v[7:6]`, the field `x` of an opcode byte (R162). -/
def fieldX (v : Byte) : Nat := (v.extractLsb' 6 2).toNat

/-- `1 << b` as a byte, for a bit number `b` of BIT, RES, SET (R166). -/
def bitMask (b : Fin 8) : Byte := 1#8 <<< b.val

end Sys2Proof.Machine
end

