-- ==== Sys2Proof/Config.lean ====
section
/-! DEFINITION. What is fixed for the machine and what the spec leaves without a value: the free values (opaque, so that
nothing can be proved of them) and what an unlisted cell of a memory array reads as. -/

namespace Sys2Proof

/-- The unspecified byte a read of 0xFEA0 to 0xFEFF returns (10_state.md R32, 20_memory.md R80). A FREE VALUE: arguments
are the draw counter of the system step, the number of the access within the instruction and the address read.
Log entry 2. -/
opaque Config.freeByte : Nat → Nat → Nat → BitVec 8

/-- The byte the rasterizer takes when a window line counter larger than the map carries its index past the end of VRAM
(61_ppu.md R486 and R487 give no result there). A FREE VALUE: arguments are the draw counter, the line and the offset
past 0x8000. Log entry 9. -/
opaque Config.freeVramByte : Nat → Nat → Nat → BitVec 8

/-- The byte a cell of VRAM, WRAM, OAM, HRAM or IOBacking holds after reset until it is written: no known value (10_state.md
R33). A FREE VALUE: arguments are the number of the array and the offset. Log entry 1. -/
opaque Config.powerOnByte : Nat → Nat → BitVec 8

/-- What an unlisted cell of external RAM and of the cartridge image reads as: external RAM is zeroed (R31); no cartridge is
loaded at reset (DESIGN CHOICE, log entry 6). -/
def Config.unlistedByte : Byte := 0x00#8

end Sys2Proof
end

