-- ==== Sys2Proof/Syntax.lean ====
section
/-! DEFINITION. The instruction set (30_encoding.md): one constructor of `Instr` for each of the 512 rows of
opcode_table.json, with the row's immediate operand, and the families of rows as functions of their operand codes. A
constructor's name is its row's mnemonic in small letters; `at` stands for parentheses, `I` and `D` after HL for `+` and `-`. -/

namespace Sys2Proof

/-- The 8-bit registers with a code (R163). Code 6 is no register: it is the memory byte at HL. -/
inductive Reg8 where
  | b
  | c
  | d
  | e
  | h
  | l
  | a
  deriving DecidableEq, Repr

/-- An 8-bit operand of the `cb` table: a register or the memory byte at HL (R163). -/
inductive Target8 where
  | reg (r : Reg8)
  | atHL
  deriving DecidableEq, Repr

/-- The pair table `rp` (R164). -/
inductive RegPair where
  | bc
  | de
  | hl
  | sp
  deriving DecidableEq, Repr

/-- The pair table `rp2`, used by PUSH and POP (R164). -/
inductive StackPair where
  | bc
  | de
  | hl
  | af
  deriving DecidableEq, Repr

/-- The condition codes (R165). -/
inductive Cond where
  | nz
  | z
  | nc
  | c
  deriving DecidableEq, Repr

/-- The ALU operations (R167). -/
inductive AluOp where
  | add
  | adc
  | sub
  | sbc
  | and
  | xor
  | or
  | cp
  deriving DecidableEq, Repr

/-- The rotate and shift kinds of the `cb` table (R167). -/
inductive RotKind where
  | rlc
  | rrc
  | rl
  | rr
  | sla
  | sra
  | swap
  | srl
  deriving DecidableEq, Repr

/-- The eleven undefined bytes of the base table (R171). -/
inductive IllegalByte where
  | xD3
  | xDB
  | xDD
  | xE3
  | xE4
  | xEB
  | xEC
  | xED
  | xF4
  | xFC
  | xFD
  deriving DecidableEq, Repr

/-- An opcode: a byte of the base table or of the `cb` table (R160). -/
inductive OpKey where
  | base (op : Byte)
  | cb (op2 : Byte)
  deriving DecidableEq, Repr

/-- The instructions, one constructor for each row of opcode_table.json: the rows with an immediate, then the others, each in
the table's order. `n` is an unsigned byte, `e` a signed byte as its raw bits, `nn` a word, `pad` the padding byte of STOP,
`op2` the byte after the prefix. -/
inductive Instr where
  | ld_bc_n16 (nn : Word)
  | ld_b_n8 (n : Byte)
  | ld_atN16_sp (nn : Word)
  | ld_c_n8 (n : Byte)
  | stop (pad : Byte)
  | ld_de_n16 (nn : Word)
  | ld_d_n8 (n : Byte)
  | jr_e8 (e : Byte)
  | ld_e_n8 (n : Byte)
  | jr_nz_e8 (e : Byte)
  | ld_hl_n16 (nn : Word)
  | ld_h_n8 (n : Byte)
  | jr_z_e8 (e : Byte)
  | ld_l_n8 (n : Byte)
  | jr_nc_e8 (e : Byte)
  | ld_sp_n16 (nn : Word)
  | ld_atHL_n8 (n : Byte)
  | jr_c_e8 (e : Byte)
  | ld_a_n8 (n : Byte)
  | jp_nz_n16 (nn : Word)
  | jp_n16 (nn : Word)
  | call_nz_n16 (nn : Word)
  | add_a_n8 (n : Byte)
  | jp_z_n16 (nn : Word)
  | prefix_cb (op2 : Byte)
  | call_z_n16 (nn : Word)
  | call_n16 (nn : Word)
  | adc_a_n8 (n : Byte)
  | jp_nc_n16 (nn : Word)
  | call_nc_n16 (nn : Word)
  | sub_n8 (n : Byte)
  | jp_c_n16 (nn : Word)
  | call_c_n16 (nn : Word)
  | sbc_a_n8 (n : Byte)
  | ldh_atN8_a (n : Byte)
  | and_n8 (n : Byte)
  | add_sp_e8 (e : Byte)
  | ld_atN16_a (nn : Word)
  | xor_n8 (n : Byte)
  | ldh_a_atN8 (n : Byte)
  | or_n8 (n : Byte)
  | ld_hl_spE8 (e : Byte)
  | ld_a_atN16 (nn : Word)
  | cp_n8 (n : Byte)
  | nop
  | ld_atBC_a
  | inc_bc
  | inc_b
  | dec_b
  | rlca
  | add_hl_bc
  | ld_a_atBC
  | dec_bc
  | inc_c
  | dec_c
  | rrca
  | ld_atDE_a
  | inc_de
  | inc_d
  | dec_d
  | rla
  | add_hl_de
  | ld_a_atDE
  | dec_de
  | inc_e
  | dec_e
  | rra
  | ld_atHLI_a
  | inc_hl
  | inc_h
  | dec_h
  | daa
  | add_hl_hl
  | ld_a_atHLI
  | dec_hl
  | inc_l
  | dec_l
  | cpl
  | ld_atHLD_a
  | inc_sp
  | inc_atHL
  | dec_atHL
  | scf
  | add_hl_sp
  | ld_a_atHLD
  | dec_sp
  | inc_a
  | dec_a
  | ccf
  | ld_b_b
  | ld_b_c
  | ld_b_d
  | ld_b_e
  | ld_b_h
  | ld_b_l
  | ld_b_atHL
  | ld_b_a
  | ld_c_b
  | ld_c_c
  | ld_c_d
  | ld_c_e
  | ld_c_h
  | ld_c_l
  | ld_c_atHL
  | ld_c_a
  | ld_d_b
  | ld_d_c
  | ld_d_d
  | ld_d_e
  | ld_d_h
  | ld_d_l
  | ld_d_atHL
  | ld_d_a
  | ld_e_b
  | ld_e_c
  | ld_e_d
  | ld_e_e
  | ld_e_h
  | ld_e_l
  | ld_e_atHL
  | ld_e_a
  | ld_h_b
  | ld_h_c
  | ld_h_d
  | ld_h_e
  | ld_h_h
  | ld_h_l
  | ld_h_atHL
  | ld_h_a
  | ld_l_b
  | ld_l_c
  | ld_l_d
  | ld_l_e
  | ld_l_h
  | ld_l_l
  | ld_l_atHL
  | ld_l_a
  | ld_atHL_b
  | ld_atHL_c
  | ld_atHL_d
  | ld_atHL_e
  | ld_atHL_h
  | ld_atHL_l
  | halt
  | ld_atHL_a
  | ld_a_b
  | ld_a_c
  | ld_a_d
  | ld_a_e
  | ld_a_h
  | ld_a_l
  | ld_a_atHL
  | ld_a_a
  | add_a_b
  | add_a_c
  | add_a_d
  | add_a_e
  | add_a_h
  | add_a_l
  | add_a_atHL
  | add_a_a
  | adc_a_b
  | adc_a_c
  | adc_a_d
  | adc_a_e
  | adc_a_h
  | adc_a_l
  | adc_a_atHL
  | adc_a_a
  | sub_b
  | sub_c
  | sub_d
  | sub_e
  | sub_h
  | sub_l
  | sub_atHL
  | sub_a
  | sbc_a_b
  | sbc_a_c
  | sbc_a_d
  | sbc_a_e
  | sbc_a_h
  | sbc_a_l
  | sbc_a_atHL
  | sbc_a_a
  | and_b
  | and_c
  | and_d
  | and_e
  | and_h
  | and_l
  | and_atHL
  | and_a
  | xor_b
  | xor_c
  | xor_d
  | xor_e
  | xor_h
  | xor_l
  | xor_atHL
  | xor_a
  | or_b
  | or_c
  | or_d
  | or_e
  | or_h
  | or_l
  | or_atHL
  | or_a
  | cp_b
  | cp_c
  | cp_d
  | cp_e
  | cp_h
  | cp_l
  | cp_atHL
  | cp_a
  | ret_nz
  | pop_bc
  | push_bc
  | rst_00h
  | ret_z
  | ret
  | rst_08h
  | ret_nc
  | pop_de
  | illegal_d3
  | push_de
  | rst_10h
  | ret_c
  | reti
  | illegal_db
  | illegal_dd
  | rst_18h
  | pop_hl
  | ldh_atC_a
  | illegal_e3
  | illegal_e4
  | push_hl
  | rst_20h
  | jp_hl
  | illegal_eb
  | illegal_ec
  | illegal_ed
  | rst_28h
  | pop_af
  | ldh_a_atC
  | di
  | illegal_f4
  | push_af
  | rst_30h
  | ld_sp_hl
  | ei
  | illegal_fc
  | illegal_fd
  | rst_38h
  | rlc_b
  | rlc_c
  | rlc_d
  | rlc_e
  | rlc_h
  | rlc_l
  | rlc_atHL
  | rlc_a
  | rrc_b
  | rrc_c
  | rrc_d
  | rrc_e
  | rrc_h
  | rrc_l
  | rrc_atHL
  | rrc_a
  | rl_b
  | rl_c
  | rl_d
  | rl_e
  | rl_h
  | rl_l
  | rl_atHL
  | rl_a
  | rr_b
  | rr_c
  | rr_d
  | rr_e
  | rr_h
  | rr_l
  | rr_atHL
  | rr_a
  | sla_b
  | sla_c
  | sla_d
  | sla_e
  | sla_h
  | sla_l
  | sla_atHL
  | sla_a
  | sra_b
  | sra_c
  | sra_d
  | sra_e
  | sra_h
  | sra_l
  | sra_atHL
  | sra_a
  | swap_b
  | swap_c
  | swap_d
  | swap_e
  | swap_h
  | swap_l
  | swap_atHL
  | swap_a
  | srl_b
  | srl_c
  | srl_d
  | srl_e
  | srl_h
  | srl_l
  | srl_atHL
  | srl_a
  | bit_0_b
  | bit_0_c
  | bit_0_d
  | bit_0_e
  | bit_0_h
  | bit_0_l
  | bit_0_atHL
  | bit_0_a
  | bit_1_b
  | bit_1_c
  | bit_1_d
  | bit_1_e
  | bit_1_h
  | bit_1_l
  | bit_1_atHL
  | bit_1_a
  | bit_2_b
  | bit_2_c
  | bit_2_d
  | bit_2_e
  | bit_2_h
  | bit_2_l
  | bit_2_atHL
  | bit_2_a
  | bit_3_b
  | bit_3_c
  | bit_3_d
  | bit_3_e
  | bit_3_h
  | bit_3_l
  | bit_3_atHL
  | bit_3_a
  | bit_4_b
  | bit_4_c
  | bit_4_d
  | bit_4_e
  | bit_4_h
  | bit_4_l
  | bit_4_atHL
  | bit_4_a
  | bit_5_b
  | bit_5_c
  | bit_5_d
  | bit_5_e
  | bit_5_h
  | bit_5_l
  | bit_5_atHL
  | bit_5_a
  | bit_6_b
  | bit_6_c
  | bit_6_d
  | bit_6_e
  | bit_6_h
  | bit_6_l
  | bit_6_atHL
  | bit_6_a
  | bit_7_b
  | bit_7_c
  | bit_7_d
  | bit_7_e
  | bit_7_h
  | bit_7_l
  | bit_7_atHL
  | bit_7_a
  | res_0_b
  | res_0_c
  | res_0_d
  | res_0_e
  | res_0_h
  | res_0_l
  | res_0_atHL
  | res_0_a
  | res_1_b
  | res_1_c
  | res_1_d
  | res_1_e
  | res_1_h
  | res_1_l
  | res_1_atHL
  | res_1_a
  | res_2_b
  | res_2_c
  | res_2_d
  | res_2_e
  | res_2_h
  | res_2_l
  | res_2_atHL
  | res_2_a
  | res_3_b
  | res_3_c
  | res_3_d
  | res_3_e
  | res_3_h
  | res_3_l
  | res_3_atHL
  | res_3_a
  | res_4_b
  | res_4_c
  | res_4_d
  | res_4_e
  | res_4_h
  | res_4_l
  | res_4_atHL
  | res_4_a
  | res_5_b
  | res_5_c
  | res_5_d
  | res_5_e
  | res_5_h
  | res_5_l
  | res_5_atHL
  | res_5_a
  | res_6_b
  | res_6_c
  | res_6_d
  | res_6_e
  | res_6_h
  | res_6_l
  | res_6_atHL
  | res_6_a
  | res_7_b
  | res_7_c
  | res_7_d
  | res_7_e
  | res_7_h
  | res_7_l
  | res_7_atHL
  | res_7_a
  | set_0_b
  | set_0_c
  | set_0_d
  | set_0_e
  | set_0_h
  | set_0_l
  | set_0_atHL
  | set_0_a
  | set_1_b
  | set_1_c
  | set_1_d
  | set_1_e
  | set_1_h
  | set_1_l
  | set_1_atHL
  | set_1_a
  | set_2_b
  | set_2_c
  | set_2_d
  | set_2_e
  | set_2_h
  | set_2_l
  | set_2_atHL
  | set_2_a
  | set_3_b
  | set_3_c
  | set_3_d
  | set_3_e
  | set_3_h
  | set_3_l
  | set_3_atHL
  | set_3_a
  | set_4_b
  | set_4_c
  | set_4_d
  | set_4_e
  | set_4_h
  | set_4_l
  | set_4_atHL
  | set_4_a
  | set_5_b
  | set_5_c
  | set_5_d
  | set_5_e
  | set_5_h
  | set_5_l
  | set_5_atHL
  | set_5_a
  | set_6_b
  | set_6_c
  | set_6_d
  | set_6_e
  | set_6_h
  | set_6_l
  | set_6_atHL
  | set_6_a
  | set_7_b
  | set_7_c
  | set_7_d
  | set_7_e
  | set_7_h
  | set_7_l
  | set_7_atHL
  | set_7_a
  deriving DecidableEq, Repr

/-! ### The families of rows by operand code -/

/-- `LD r,r'` (40_load8.md R200). -/
def Instr.ldRegReg : Reg8 → Reg8 → Instr
  | .b, .b => .ld_b_b
  | .b, .c => .ld_b_c
  | .b, .d => .ld_b_d
  | .b, .e => .ld_b_e
  | .b, .h => .ld_b_h
  | .b, .l => .ld_b_l
  | .b, .a => .ld_b_a
  | .c, .b => .ld_c_b
  | .c, .c => .ld_c_c
  | .c, .d => .ld_c_d
  | .c, .e => .ld_c_e
  | .c, .h => .ld_c_h
  | .c, .l => .ld_c_l
  | .c, .a => .ld_c_a
  | .d, .b => .ld_d_b
  | .d, .c => .ld_d_c
  | .d, .d => .ld_d_d
  | .d, .e => .ld_d_e
  | .d, .h => .ld_d_h
  | .d, .l => .ld_d_l
  | .d, .a => .ld_d_a
  | .e, .b => .ld_e_b
  | .e, .c => .ld_e_c
  | .e, .d => .ld_e_d
  | .e, .e => .ld_e_e
  | .e, .h => .ld_e_h
  | .e, .l => .ld_e_l
  | .e, .a => .ld_e_a
  | .h, .b => .ld_h_b
  | .h, .c => .ld_h_c
  | .h, .d => .ld_h_d
  | .h, .e => .ld_h_e
  | .h, .h => .ld_h_h
  | .h, .l => .ld_h_l
  | .h, .a => .ld_h_a
  | .l, .b => .ld_l_b
  | .l, .c => .ld_l_c
  | .l, .d => .ld_l_d
  | .l, .e => .ld_l_e
  | .l, .h => .ld_l_h
  | .l, .l => .ld_l_l
  | .l, .a => .ld_l_a
  | .a, .b => .ld_a_b
  | .a, .c => .ld_a_c
  | .a, .d => .ld_a_d
  | .a, .e => .ld_a_e
  | .a, .h => .ld_a_h
  | .a, .l => .ld_a_l
  | .a, .a => .ld_a_a

/-- `LD r,n` (R201). -/
def Instr.ldRegImm : Reg8 → Byte → Instr
  | .b, n => .ld_b_n8 n
  | .c, n => .ld_c_n8 n
  | .d, n => .ld_d_n8 n
  | .e, n => .ld_e_n8 n
  | .h, n => .ld_h_n8 n
  | .l, n => .ld_l_n8 n
  | .a, n => .ld_a_n8 n

/-- `LD r,(HL)` (R202). -/
def Instr.ldRegMem : Reg8 → Instr
  | .b => .ld_b_atHL
  | .c => .ld_c_atHL
  | .d => .ld_d_atHL
  | .e => .ld_e_atHL
  | .h => .ld_h_atHL
  | .l => .ld_l_atHL
  | .a => .ld_a_atHL

/-- `LD (HL),r` (R203). -/
def Instr.ldMemReg : Reg8 → Instr
  | .b => .ld_atHL_b
  | .c => .ld_atHL_c
  | .d => .ld_atHL_d
  | .e => .ld_atHL_e
  | .h => .ld_atHL_h
  | .l => .ld_atHL_l
  | .a => .ld_atHL_a

/-- `LD rr,nn` (41_load16_stack.md R230). -/
def Instr.ldPairImm : RegPair → Word → Instr
  | .bc, nn => .ld_bc_n16 nn
  | .de, nn => .ld_de_n16 nn
  | .hl, nn => .ld_hl_n16 nn
  | .sp, nn => .ld_sp_n16 nn

/-- `PUSH rr` (R233). -/
def Instr.push : StackPair → Instr
  | .bc => .push_bc
  | .de => .push_de
  | .hl => .push_hl
  | .af => .push_af

/-- `POP rr` (R234). -/
def Instr.pop : StackPair → Instr
  | .bc => .pop_bc
  | .de => .pop_de
  | .hl => .pop_hl
  | .af => .pop_af

/-- The ALU operations on a register (42_alu8.md R253 to R274). -/
def Instr.aluReg : AluOp → Reg8 → Instr
  | .add, .b => .add_a_b
  | .add, .c => .add_a_c
  | .add, .d => .add_a_d
  | .add, .e => .add_a_e
  | .add, .h => .add_a_h
  | .add, .l => .add_a_l
  | .add, .a => .add_a_a
  | .adc, .b => .adc_a_b
  | .adc, .c => .adc_a_c
  | .adc, .d => .adc_a_d
  | .adc, .e => .adc_a_e
  | .adc, .h => .adc_a_h
  | .adc, .l => .adc_a_l
  | .adc, .a => .adc_a_a
  | .sub, .b => .sub_b
  | .sub, .c => .sub_c
  | .sub, .d => .sub_d
  | .sub, .e => .sub_e
  | .sub, .h => .sub_h
  | .sub, .l => .sub_l
  | .sub, .a => .sub_a
  | .sbc, .b => .sbc_a_b
  | .sbc, .c => .sbc_a_c
  | .sbc, .d => .sbc_a_d
  | .sbc, .e => .sbc_a_e
  | .sbc, .h => .sbc_a_h
  | .sbc, .l => .sbc_a_l
  | .sbc, .a => .sbc_a_a
  | .and, .b => .and_b
  | .and, .c => .and_c
  | .and, .d => .and_d
  | .and, .e => .and_e
  | .and, .h => .and_h
  | .and, .l => .and_l
  | .and, .a => .and_a
  | .xor, .b => .xor_b
  | .xor, .c => .xor_c
  | .xor, .d => .xor_d
  | .xor, .e => .xor_e
  | .xor, .h => .xor_h
  | .xor, .l => .xor_l
  | .xor, .a => .xor_a
  | .or, .b => .or_b
  | .or, .c => .or_c
  | .or, .d => .or_d
  | .or, .e => .or_e
  | .or, .h => .or_h
  | .or, .l => .or_l
  | .or, .a => .or_a
  | .cp, .b => .cp_b
  | .cp, .c => .cp_c
  | .cp, .d => .cp_d
  | .cp, .e => .cp_e
  | .cp, .h => .cp_h
  | .cp, .l => .cp_l
  | .cp, .a => .cp_a

/-- The ALU operations on (HL) (R254 to R275). -/
def Instr.aluMem : AluOp → Instr
  | .add => .add_a_atHL
  | .adc => .adc_a_atHL
  | .sub => .sub_atHL
  | .sbc => .sbc_a_atHL
  | .and => .and_atHL
  | .xor => .xor_atHL
  | .or => .or_atHL
  | .cp => .cp_atHL

/-- The ALU operations on an immediate (R255 to R276). -/
def Instr.aluImm : AluOp → Byte → Instr
  | .add, n => .add_a_n8 n
  | .adc, n => .adc_a_n8 n
  | .sub, n => .sub_n8 n
  | .sbc, n => .sbc_a_n8 n
  | .and, n => .and_n8 n
  | .xor, n => .xor_n8 n
  | .or, n => .or_n8 n
  | .cp, n => .cp_n8 n

/-- `INC r` (R277). -/
def Instr.incReg : Reg8 → Instr
  | .b => .inc_b
  | .c => .inc_c
  | .d => .inc_d
  | .e => .inc_e
  | .h => .inc_h
  | .l => .inc_l
  | .a => .inc_a

/-- `DEC r` (R279). -/
def Instr.decReg : Reg8 → Instr
  | .b => .dec_b
  | .c => .dec_c
  | .d => .dec_d
  | .e => .dec_e
  | .h => .dec_h
  | .l => .dec_l
  | .a => .dec_a

/-- `ADD HL,rr` (43_alu16.md R290). -/
def Instr.addHl : RegPair → Instr
  | .bc => .add_hl_bc
  | .de => .add_hl_de
  | .hl => .add_hl_hl
  | .sp => .add_hl_sp

/-- `INC rr` (R291). -/
def Instr.incPair : RegPair → Instr
  | .bc => .inc_bc
  | .de => .inc_de
  | .hl => .inc_hl
  | .sp => .inc_sp

/-- `DEC rr` (R292). -/
def Instr.decPair : RegPair → Instr
  | .bc => .dec_bc
  | .de => .dec_de
  | .hl => .dec_hl
  | .sp => .dec_sp

/-- The rotates and shifts of the `cb` table (44_rotate_shift_bit.md R307 to R322). -/
def Instr.rot : RotKind → Target8 → Instr
  | .rlc, .reg .b => .rlc_b
  | .rlc, .reg .c => .rlc_c
  | .rlc, .reg .d => .rlc_d
  | .rlc, .reg .e => .rlc_e
  | .rlc, .reg .h => .rlc_h
  | .rlc, .reg .l => .rlc_l
  | .rlc, .reg .a => .rlc_a
  | .rlc, .atHL => .rlc_atHL
  | .rrc, .reg .b => .rrc_b
  | .rrc, .reg .c => .rrc_c
  | .rrc, .reg .d => .rrc_d
  | .rrc, .reg .e => .rrc_e
  | .rrc, .reg .h => .rrc_h
  | .rrc, .reg .l => .rrc_l
  | .rrc, .reg .a => .rrc_a
  | .rrc, .atHL => .rrc_atHL
  | .rl, .reg .b => .rl_b
  | .rl, .reg .c => .rl_c
  | .rl, .reg .d => .rl_d
  | .rl, .reg .e => .rl_e
  | .rl, .reg .h => .rl_h
  | .rl, .reg .l => .rl_l
  | .rl, .reg .a => .rl_a
  | .rl, .atHL => .rl_atHL
  | .rr, .reg .b => .rr_b
  | .rr, .reg .c => .rr_c
  | .rr, .reg .d => .rr_d
  | .rr, .reg .e => .rr_e
  | .rr, .reg .h => .rr_h
  | .rr, .reg .l => .rr_l
  | .rr, .reg .a => .rr_a
  | .rr, .atHL => .rr_atHL
  | .sla, .reg .b => .sla_b
  | .sla, .reg .c => .sla_c
  | .sla, .reg .d => .sla_d
  | .sla, .reg .e => .sla_e
  | .sla, .reg .h => .sla_h
  | .sla, .reg .l => .sla_l
  | .sla, .reg .a => .sla_a
  | .sla, .atHL => .sla_atHL
  | .sra, .reg .b => .sra_b
  | .sra, .reg .c => .sra_c
  | .sra, .reg .d => .sra_d
  | .sra, .reg .e => .sra_e
  | .sra, .reg .h => .sra_h
  | .sra, .reg .l => .sra_l
  | .sra, .reg .a => .sra_a
  | .sra, .atHL => .sra_atHL
  | .swap, .reg .b => .swap_b
  | .swap, .reg .c => .swap_c
  | .swap, .reg .d => .swap_d
  | .swap, .reg .e => .swap_e
  | .swap, .reg .h => .swap_h
  | .swap, .reg .l => .swap_l
  | .swap, .reg .a => .swap_a
  | .swap, .atHL => .swap_atHL
  | .srl, .reg .b => .srl_b
  | .srl, .reg .c => .srl_c
  | .srl, .reg .d => .srl_d
  | .srl, .reg .e => .srl_e
  | .srl, .reg .h => .srl_h
  | .srl, .reg .l => .srl_l
  | .srl, .reg .a => .srl_a
  | .srl, .atHL => .srl_atHL

/-- `BIT b` on a register or (HL) (R323, R324). -/
def Instr.bit : Fin 8 → Target8 → Instr
  | 0, .reg .b => .bit_0_b
  | 0, .reg .c => .bit_0_c
  | 0, .reg .d => .bit_0_d
  | 0, .reg .e => .bit_0_e
  | 0, .reg .h => .bit_0_h
  | 0, .reg .l => .bit_0_l
  | 0, .reg .a => .bit_0_a
  | 0, .atHL => .bit_0_atHL
  | 1, .reg .b => .bit_1_b
  | 1, .reg .c => .bit_1_c
  | 1, .reg .d => .bit_1_d
  | 1, .reg .e => .bit_1_e
  | 1, .reg .h => .bit_1_h
  | 1, .reg .l => .bit_1_l
  | 1, .reg .a => .bit_1_a
  | 1, .atHL => .bit_1_atHL
  | 2, .reg .b => .bit_2_b
  | 2, .reg .c => .bit_2_c
  | 2, .reg .d => .bit_2_d
  | 2, .reg .e => .bit_2_e
  | 2, .reg .h => .bit_2_h
  | 2, .reg .l => .bit_2_l
  | 2, .reg .a => .bit_2_a
  | 2, .atHL => .bit_2_atHL
  | 3, .reg .b => .bit_3_b
  | 3, .reg .c => .bit_3_c
  | 3, .reg .d => .bit_3_d
  | 3, .reg .e => .bit_3_e
  | 3, .reg .h => .bit_3_h
  | 3, .reg .l => .bit_3_l
  | 3, .reg .a => .bit_3_a
  | 3, .atHL => .bit_3_atHL
  | 4, .reg .b => .bit_4_b
  | 4, .reg .c => .bit_4_c
  | 4, .reg .d => .bit_4_d
  | 4, .reg .e => .bit_4_e
  | 4, .reg .h => .bit_4_h
  | 4, .reg .l => .bit_4_l
  | 4, .reg .a => .bit_4_a
  | 4, .atHL => .bit_4_atHL
  | 5, .reg .b => .bit_5_b
  | 5, .reg .c => .bit_5_c
  | 5, .reg .d => .bit_5_d
  | 5, .reg .e => .bit_5_e
  | 5, .reg .h => .bit_5_h
  | 5, .reg .l => .bit_5_l
  | 5, .reg .a => .bit_5_a
  | 5, .atHL => .bit_5_atHL
  | 6, .reg .b => .bit_6_b
  | 6, .reg .c => .bit_6_c
  | 6, .reg .d => .bit_6_d
  | 6, .reg .e => .bit_6_e
  | 6, .reg .h => .bit_6_h
  | 6, .reg .l => .bit_6_l
  | 6, .reg .a => .bit_6_a
  | 6, .atHL => .bit_6_atHL
  | 7, .reg .b => .bit_7_b
  | 7, .reg .c => .bit_7_c
  | 7, .reg .d => .bit_7_d
  | 7, .reg .e => .bit_7_e
  | 7, .reg .h => .bit_7_h
  | 7, .reg .l => .bit_7_l
  | 7, .reg .a => .bit_7_a
  | 7, .atHL => .bit_7_atHL

/-- `RES b` on a register or (HL) (R325, R326). -/
def Instr.res : Fin 8 → Target8 → Instr
  | 0, .reg .b => .res_0_b
  | 0, .reg .c => .res_0_c
  | 0, .reg .d => .res_0_d
  | 0, .reg .e => .res_0_e
  | 0, .reg .h => .res_0_h
  | 0, .reg .l => .res_0_l
  | 0, .reg .a => .res_0_a
  | 0, .atHL => .res_0_atHL
  | 1, .reg .b => .res_1_b
  | 1, .reg .c => .res_1_c
  | 1, .reg .d => .res_1_d
  | 1, .reg .e => .res_1_e
  | 1, .reg .h => .res_1_h
  | 1, .reg .l => .res_1_l
  | 1, .reg .a => .res_1_a
  | 1, .atHL => .res_1_atHL
  | 2, .reg .b => .res_2_b
  | 2, .reg .c => .res_2_c
  | 2, .reg .d => .res_2_d
  | 2, .reg .e => .res_2_e
  | 2, .reg .h => .res_2_h
  | 2, .reg .l => .res_2_l
  | 2, .reg .a => .res_2_a
  | 2, .atHL => .res_2_atHL
  | 3, .reg .b => .res_3_b
  | 3, .reg .c => .res_3_c
  | 3, .reg .d => .res_3_d
  | 3, .reg .e => .res_3_e
  | 3, .reg .h => .res_3_h
  | 3, .reg .l => .res_3_l
  | 3, .reg .a => .res_3_a
  | 3, .atHL => .res_3_atHL
  | 4, .reg .b => .res_4_b
  | 4, .reg .c => .res_4_c
  | 4, .reg .d => .res_4_d
  | 4, .reg .e => .res_4_e
  | 4, .reg .h => .res_4_h
  | 4, .reg .l => .res_4_l
  | 4, .reg .a => .res_4_a
  | 4, .atHL => .res_4_atHL
  | 5, .reg .b => .res_5_b
  | 5, .reg .c => .res_5_c
  | 5, .reg .d => .res_5_d
  | 5, .reg .e => .res_5_e
  | 5, .reg .h => .res_5_h
  | 5, .reg .l => .res_5_l
  | 5, .reg .a => .res_5_a
  | 5, .atHL => .res_5_atHL
  | 6, .reg .b => .res_6_b
  | 6, .reg .c => .res_6_c
  | 6, .reg .d => .res_6_d
  | 6, .reg .e => .res_6_e
  | 6, .reg .h => .res_6_h
  | 6, .reg .l => .res_6_l
  | 6, .reg .a => .res_6_a
  | 6, .atHL => .res_6_atHL
  | 7, .reg .b => .res_7_b
  | 7, .reg .c => .res_7_c
  | 7, .reg .d => .res_7_d
  | 7, .reg .e => .res_7_e
  | 7, .reg .h => .res_7_h
  | 7, .reg .l => .res_7_l
  | 7, .reg .a => .res_7_a
  | 7, .atHL => .res_7_atHL

/-- `SET b` on a register or (HL) (R327, R328). -/
def Instr.set : Fin 8 → Target8 → Instr
  | 0, .reg .b => .set_0_b
  | 0, .reg .c => .set_0_c
  | 0, .reg .d => .set_0_d
  | 0, .reg .e => .set_0_e
  | 0, .reg .h => .set_0_h
  | 0, .reg .l => .set_0_l
  | 0, .reg .a => .set_0_a
  | 0, .atHL => .set_0_atHL
  | 1, .reg .b => .set_1_b
  | 1, .reg .c => .set_1_c
  | 1, .reg .d => .set_1_d
  | 1, .reg .e => .set_1_e
  | 1, .reg .h => .set_1_h
  | 1, .reg .l => .set_1_l
  | 1, .reg .a => .set_1_a
  | 1, .atHL => .set_1_atHL
  | 2, .reg .b => .set_2_b
  | 2, .reg .c => .set_2_c
  | 2, .reg .d => .set_2_d
  | 2, .reg .e => .set_2_e
  | 2, .reg .h => .set_2_h
  | 2, .reg .l => .set_2_l
  | 2, .reg .a => .set_2_a
  | 2, .atHL => .set_2_atHL
  | 3, .reg .b => .set_3_b
  | 3, .reg .c => .set_3_c
  | 3, .reg .d => .set_3_d
  | 3, .reg .e => .set_3_e
  | 3, .reg .h => .set_3_h
  | 3, .reg .l => .set_3_l
  | 3, .reg .a => .set_3_a
  | 3, .atHL => .set_3_atHL
  | 4, .reg .b => .set_4_b
  | 4, .reg .c => .set_4_c
  | 4, .reg .d => .set_4_d
  | 4, .reg .e => .set_4_e
  | 4, .reg .h => .set_4_h
  | 4, .reg .l => .set_4_l
  | 4, .reg .a => .set_4_a
  | 4, .atHL => .set_4_atHL
  | 5, .reg .b => .set_5_b
  | 5, .reg .c => .set_5_c
  | 5, .reg .d => .set_5_d
  | 5, .reg .e => .set_5_e
  | 5, .reg .h => .set_5_h
  | 5, .reg .l => .set_5_l
  | 5, .reg .a => .set_5_a
  | 5, .atHL => .set_5_atHL
  | 6, .reg .b => .set_6_b
  | 6, .reg .c => .set_6_c
  | 6, .reg .d => .set_6_d
  | 6, .reg .e => .set_6_e
  | 6, .reg .h => .set_6_h
  | 6, .reg .l => .set_6_l
  | 6, .reg .a => .set_6_a
  | 6, .atHL => .set_6_atHL
  | 7, .reg .b => .set_7_b
  | 7, .reg .c => .set_7_c
  | 7, .reg .d => .set_7_d
  | 7, .reg .e => .set_7_e
  | 7, .reg .h => .set_7_h
  | 7, .reg .l => .set_7_l
  | 7, .reg .a => .set_7_a
  | 7, .atHL => .set_7_atHL

/-- `JP cc,nn` (45_control.md R331). -/
def Instr.jpCond : Cond → Word → Instr
  | .nz, nn => .jp_nz_n16 nn
  | .z, nn => .jp_z_n16 nn
  | .nc, nn => .jp_nc_n16 nn
  | .c, nn => .jp_c_n16 nn

/-- `JR cc,e` (R334). -/
def Instr.jrCond : Cond → Byte → Instr
  | .nz, e => .jr_nz_e8 e
  | .z, e => .jr_z_e8 e
  | .nc, e => .jr_nc_e8 e
  | .c, e => .jr_c_e8 e

/-- `CALL cc,nn` (R336). -/
def Instr.callCond : Cond → Word → Instr
  | .nz, nn => .call_nz_n16 nn
  | .z, nn => .call_z_n16 nn
  | .nc, nn => .call_nc_n16 nn
  | .c, nn => .call_c_n16 nn

/-- `RET cc` (R338). -/
def Instr.retCond : Cond → Instr
  | .nz => .ret_nz
  | .z => .ret_z
  | .nc => .ret_nc
  | .c => .ret_c

/-- `RST t`, `t` eight times the argument (R340). -/
def Instr.rst : Fin 8 → Instr
  | 0 => .rst_00h
  | 1 => .rst_08h
  | 2 => .rst_10h
  | 3 => .rst_18h
  | 4 => .rst_20h
  | 5 => .rst_28h
  | 6 => .rst_30h
  | 7 => .rst_38h

/-- The undefined opcodes (46_system.md R365). -/
def Instr.illegal : IllegalByte → Instr
  | .xD3 => .illegal_d3
  | .xDB => .illegal_db
  | .xDD => .illegal_dd
  | .xE3 => .illegal_e3
  | .xE4 => .illegal_e4
  | .xEB => .illegal_eb
  | .xEC => .illegal_ec
  | .xED => .illegal_ed
  | .xF4 => .illegal_f4
  | .xFC => .illegal_fc
  | .xFD => .illegal_fd

end Sys2Proof
end

