-- ==== Sys2Proof/Machine/State.lean ====
section
/-! DEFINITION. The state of the machine as plain data: every piece the spec gives it (10_state.md R20 to R47), the
parameters of the instance (00_scope.md R6), the model's own fields, the reasons to stop, and the state after reset
(70_reset_and_hazards.md R540). -/

namespace Sys2Proof.Machine

/-- An array that starts zeroed (10_state.md R31): a list of (offset, byte) cells, offsets strictly rising, no cell equal to
what an unlisted offset reads as (`Memory.wf`, Machine/Memory.lean). -/
abbrev Memory := List Host.Cell

/-- A RAM array whose contents after reset are not known (R33): the cells whose byte is known, offsets strictly rising
(`Ram.wf`, Machine/Memory.lean). An unlisted cell holds its power-on byte, a free value, which no listed byte can be said to
equal: two arrays known to the same extent are the same list. -/
abbrev Ram := List Host.Cell

/-- The RAM arrays of R33. -/
inductive RamArray where
  | vram
  | wram
  | oam
  | hram
  | io
  deriving DecidableEq, Repr

/-- The arguments of the UndefinedOpcode error, kept while the CPU is locked (R27, 60_exceptions.md R400). -/
structure Lock where
  byte : Byte
  pc : Word
  deriving DecidableEq, Repr

/-- The CPU: registers (R20, R24, R25) and hidden state (R27). -/
structure Cpu where
  a : Byte
  f : Byte
  b : Byte
  c : Byte
  d : Byte
  e : Byte
  h : Byte
  l : Byte
  sp : Word
  pc : Word
  /-- Interrupt master enable (R27). -/
  ime : Bool
  /-- Set by EI, promoted to IME after the next instruction completes (R27). -/
  pendingIme : Bool
  /-- Set by HALT, cleared when an interrupt is pending (R27). -/
  halted : Bool
  /-- One-shot latch: the next opcode fetch does not increment PC (R27). -/
  haltBug : Bool
  /-- The CPU has executed an undefined opcode and executes nothing further (R27). -/
  locked : Option Lock
  deriving DecidableEq, Repr

/-- The bank controller's registers (R34). -/
structure Mbc1 where
  ramEnabled : Bool
  /-- Low five bits of the ROM bank, never 0. -/
  bank1 : BitVec 5
  /-- Upper two bits, routed to ROM or RAM by `mode1`. -/
  bank2 : BitVec 2
  /-- The banking mode bit: false is 0 (ROM upper bits), true is 1 (RAM bank selection). -/
  mode1 : Bool
  deriving DecidableEq, Repr

/-- The joypad matrix (R35). -/
structure Joypad where
  /-- JOYP bits 5:4 as last written. -/
  select : BitVec 2
  /-- Bit `id` is 1 while button `id` is pressed: Right, Left, Up, Down, A, B, Select, Start. -/
  pressed : BitVec 8
  deriving DecidableEq, Repr

/-- The serial stub (R36, 21_mmu_io_mbc1.md R130, R131). -/
structure Serial where
  sb : Byte
  sc : Byte
  /-- The bytes handed to the host's serialPort callback, oldest first (R131; the model's record, log entry 14). -/
  sent : List Byte
  deriving DecidableEq, Repr

/-- The Timer (R37). -/
structure Timer where
  divCounter : Word
  tima : Byte
  tma : Byte
  tac : Byte
  /-- T-cycles since the last TIMA increment. -/
  timaAcc : Nat
  deriving DecidableEq, Repr

/-- The four PPU modes, STAT bits 1:0 (R40, 00_scope.md R18). -/
inductive PpuMode where
  /-- Mode 0, HBlank. -/
  | hblank
  /-- Mode 1, VBlank. -/
  | vblank
  /-- Mode 2, OAM search. -/
  | oamSearch
  /-- Mode 3, pixel transfer. -/
  | pixelTransfer
  deriving DecidableEq, Repr

/-- A 2-bit shade, the output of a palette register (R18, 61_ppu.md R480). -/
abbrev Shade := BitVec 2

/-- The frame buffer: 144 rows of 160 shades (R38, 61_ppu.md R480). -/
abbrev FrameBuffer := Vector (Vector Shade 160) 144

/-- The PPU (R38 to R41). -/
structure Ppu where
  modeCycles : Nat
  ly : Byte
  mode : PpuMode
  coincidence : Bool
  /-- STAT bits 6:3. -/
  statEnable : BitVec 4
  lcdc : Byte
  scy : Byte
  scx : Byte
  lyc : Byte
  /-- The last value written to 0xFF46. -/
  dma : Byte
  bgp : Byte
  obp0 : Byte
  obp1 : Byte
  wy : Byte
  wx : Byte
  windowLine : Nat
  frameReadyLatch : Bool
  frameBuffer : FrameBuffer
  deriving DecidableEq, Repr

/-- An entry of the CYCLES parameter (00_scope.md R6) that differs from the default table of 70_reset_and_hazards.md R570
and R571: the T-cycle costs of an opcode, taken and not taken. -/
structure CycleEntry where
  key : OpKey
  taken : Nat
  untaken : Nat
  deriving DecidableEq, Repr

/-- The parameters of the instance (00_scope.md R6). No step writes them. -/
structure Params where
  /-- ROM_BANKS. -/
  romBanks : Nat
  /-- RAM_BYTES. -/
  ramBytes : Nat
  /-- HAS_MBC1; no rule of the machine depends on it (21_mmu_io_mbc1.md R117). -/
  hasMbc1 : Bool
  /-- BLOCKING. -/
  blocking : Bool
  /-- CYCLES, as the entries that override the default table. -/
  cycles : List CycleEntry
  deriving DecidableEq, Repr

/-- The five interrupt sources (R28, 60_exceptions.md R403). -/
inductive IntSource where
  | vblank
  | stat
  | timer
  | serial
  | joypad
  deriving DecidableEq, Repr

/-- Contents of the RAM arrays as (offset, byte) cells in any order: what RAM happens to hold after a reset, which the spec
leaves unspecified (R33). -/
structure RamImage where
  extRam : List Host.Cell
  vram : List Host.Cell
  wram : List Host.Cell
  oam : List Host.Cell
  hram : List Host.Cell
  io : List Host.Cell
  deriving DecidableEq, Repr

/-- What the host can do between system steps (00_scope.md R16). -/
inductive HostAction where
  /-- pressButton(id) (21_mmu_io_mbc1.md R128). -/
  | press (id : Fin 8)
  /-- releaseButton(id) (R128). -/
  | release (id : Fin 8)
  /-- requestInterrupt(source) (60_exceptions.md R405). -/
  | requestInterrupt (source : IntSource)
  /-- A call of frameReady(), which clears the latch (61_ppu.md R464). -/
  | pollFrameReady
  /-- reset(); the argument is what the RAM arrays happen to hold after it (R33, 70_reset_and_hazards.md R540). -/
  | reset (ram : RamImage)
  deriving DecidableEq, Repr

/-- The whole state. -/
structure State where
  cpu : Cpu
  /-- IE, 0xFFFF (R29). -/
  ie : Byte
  /-- The five stored bits of IF, 0xFF0F (R30). -/
  iflag : BitVec 5
  rom : Memory
  extRam : Memory
  vram : Ram
  wram : Ram
  oam : Ram
  hram : Ram
  /-- IOBacking, by offset from 0xFF00 (R31, R45). -/
  io : Ram
  mbc : Mbc1
  joypad : Joypad
  serial : Serial
  timer : Timer
  ppu : Ppu
  params : Params
  /-- The T-cycle count the last CPU step returned (00_scope.md R14; the model's own field, log entry 8). -/
  cost : Nat
  /-- The counter free values are applied to (the model's own field, log entry 2). -/
  draws : Nat
  /-- The host's actions before each coming system step, the next step's first (the model's own field, log entry 7). -/
  inputs : List (List HostAction)
  deriving DecidableEq, Repr

/-- Why the machine stops. -/
inductive Fault where
  /-- UndefinedOpcode(byte, pc), the only exception of the hardware (60_exceptions.md R430): raised by the eleven ILLEGAL
  rows, and again by every step of a locked CPU. `left` is the state the raise leaves (`locked` set, PC after the byte; R365).
  Safe: the spec says the step raises this error to the host and the run ends. -/
  | undefinedOpcode (byte : Byte) (pc : Word) (left : State)
  deriving DecidableEq, Repr

/-- Why an instruction has no meaning. -/
inductive Refusal where
  /-- Raised by no arm: every instruction of the opcode table has its meaning. Safe. -/
  | notModelled (mnemonic : String)
  deriving DecidableEq, Repr

/-- What a meaning and a step answer. -/
abbrev Result := Host.Outcome State Fault Refusal

/-- The CPU after reset (R26, R27). -/
def Cpu.reset : Cpu where
  a := 0x01#8
  f := 0xB0#8
  b := 0x00#8
  c := 0x13#8
  d := 0x00#8
  e := 0xD8#8
  h := 0x01#8
  l := 0x4D#8
  sp := 0xFFFE#16
  pc := 0x0100#16
  ime := false
  pendingIme := false
  halted := false
  haltBug := false
  locked := none

/-- The bank controller after reset (R34). -/
def Mbc1.reset : Mbc1 where
  ramEnabled := false
  bank1 := 1#5
  bank2 := 0#2
  mode1 := false

/-- The Timer after reset (R37). -/
def Timer.reset : Timer where
  divCounter := 0x0000#16
  tima := 0x00#8
  tma := 0x00#8
  tac := 0x00#8
  timaAcc := 0

/-- The PPU after reset (R38). -/
def Ppu.reset : Ppu where
  modeCycles := 0
  ly := 0x00#8
  mode := .oamSearch
  coincidence := true
  statEnable := 0#4
  lcdc := 0x91#8
  scy := 0x00#8
  scx := 0x00#8
  lyc := 0x00#8
  dma := 0xFF#8
  bgp := 0xFC#8
  obp0 := 0xFF#8
  obp1 := 0xFF#8
  wy := 0x00#8
  wx := 0x00#8
  windowLine := 0
  frameReadyLatch := false
  frameBuffer := Vector.replicate 144 (Vector.replicate 160 0#2)

/-- The instance right after reset when no cartridge is loaded: the geometry the header of an all-zero image names
(21_mmu_io_mbc1.md R118: type 0x00, ROM size code 0, RAM size code 0), BLOCKING and CYCLES at the spec's defaults
(DESIGN CHOICE, log entry 5). -/
def Params.reset : Params where
  romBanks := 2
  ramBytes := 0
  hasMbc1 := false
  blocking := false
  cycles := []

/-- The machine right after reset (70_reset_and_hazards.md R540, 10_state.md R47). -/
def State.reset : State where
  cpu := Cpu.reset
  ie := 0x00#8
  iflag := 0#5
  rom := []
  extRam := []
  vram := []
  wram := []
  oam := []
  hram := []
  io := []
  mbc := Mbc1.reset
  joypad := { select := 0b11#2, pressed := 0#8 }
  serial := { sb := 0x00#8, sc := 0x00#8, sent := [] }
  timer := Timer.reset
  ppu := Ppu.reset
  params := Params.reset
  cost := 0
  draws := 0
  inputs := []

end Sys2Proof.Machine
end

