-- ==== Sys2Proof/Machine/Cycles.lean ====
section
/-! DEFINITION. The CYCLES parameter: the default table of 70_reset_and_hazards.md R570 and R571, and the cost of an opcode
in an instance (00_scope.md R6). -/

namespace Sys2Proof.Machine

/-- An entry with one cost (R570). -/
def cyc (n : Nat) : Option (Nat × Nat) := some (n, n)
/-- An entry "taken/not taken" (R570). -/
def cycTU (taken untaken : Nat) : Option (Nat × Nat) := some (taken, untaken)

/-- Rows 0x to 3x of the table of R570. -/
def cycles03 : List (Option (Nat × Nat)) :=
  [cyc 4, cyc 12, cyc 8, cyc 8, cyc 4, cyc 4, cyc 8, cyc 4, cyc 20, cyc 8, cyc 8, cyc 8, cyc 4, cyc 4, cyc 8, cyc 4] ++
  [cyc 4, cyc 12, cyc 8, cyc 8, cyc 4, cyc 4, cyc 8, cyc 4, cyc 12, cyc 8, cyc 8, cyc 8, cyc 4, cyc 4, cyc 8, cyc 4] ++
  [cycTU 12 8, cyc 12, cyc 8, cyc 8, cyc 4, cyc 4, cyc 8, cyc 4, cycTU 12 8, cyc 8, cyc 8, cyc 8, cyc 4, cyc 4, cyc 8, cyc 4] ++
  [cycTU 12 8, cyc 12, cyc 8, cyc 8, cyc 12, cyc 12, cyc 12, cyc 4, cycTU 12 8, cyc 8, cyc 8, cyc 8, cyc 4, cyc 4, cyc 8, cyc 4]

/-- A half row of the quadrants 4x to Bx: 4, and 8 on (HL) (R570). -/
def cyclesHalf : List (Option (Nat × Nat)) := [cyc 4, cyc 4, cyc 4, cyc 4, cyc 4, cyc 4, cyc 8, cyc 4]

/-- Row 7x, whose first half stores to (HL) and holds HALT (R570). -/
def cycles7 : List (Option (Nat × Nat)) :=
  [cyc 8, cyc 8, cyc 8, cyc 8, cyc 8, cyc 8, cyc 4, cyc 8] ++ cyclesHalf

/-- Rows Cx to Fx; `none` is the prefix byte or an undefined opcode, which have no count of their own (R570, R572). -/
def cyclesCF : List (Option (Nat × Nat)) :=
  [cycTU 20 8, cyc 12, cycTU 16 12, cyc 16, cycTU 24 12, cyc 16, cyc 8, cyc 16,
    cycTU 20 8, cyc 16, cycTU 16 12, none, cycTU 24 12, cyc 24, cyc 8, cyc 16] ++
  [cycTU 20 8, cyc 12, cycTU 16 12, none, cycTU 24 12, cyc 16, cyc 8, cyc 16,
    cycTU 20 8, cyc 16, cycTU 16 12, none, cycTU 24 12, none, cyc 8, cyc 16] ++
  [cyc 12, cyc 12, cyc 8, none, none, cyc 16, cyc 8, cyc 16, cyc 16, cyc 4, cyc 16, none, none, none, cyc 8, cyc 16] ++
  [cyc 12, cyc 12, cyc 8, cyc 4, none, cyc 16, cyc 8, cyc 16, cyc 12, cyc 8, cyc 16, cyc 4, none, none, cyc 8, cyc 16]

/-- The default table of the base opcodes (R570). -/
def baseCycles : List (Option (Nat × Nat)) :=
  cycles03 ++ (cyclesHalf ++ cyclesHalf) ++ (cyclesHalf ++ cyclesHalf) ++ (cyclesHalf ++ cyclesHalf) ++ cycles7 ++
    (cyclesHalf ++ cyclesHalf) ++ (cyclesHalf ++ cyclesHalf) ++ (cyclesHalf ++ cyclesHalf) ++ (cyclesHalf ++ cyclesHalf) ++
    cyclesCF

/-- The cost of a `cb` opcode: 8 on a register, 12 for BIT b,(HL), 16 for the other (HL) forms (R571). -/
def cbCycles (op2 : Byte) : Nat :=
  if fieldZ op2 ≠ 6 then 8 else if fieldX op2 = 1 then 12 else 16

/-- The default CYCLES entry of an opcode (taken, untaken); `none` for the prefix byte and the undefined bytes. -/
def defaultCycles : OpKey → Option (Nat × Nat)
  | .base op => baseCycles.getD op.toNat none
  | .cb op2 => some (cbCycles op2, cbCycles op2)

/-- The CYCLES entry of an opcode in an instance: the instance's own entry if it lists one, else the default. An opcode
without an entry counts 4, which no instruction's cost uses (46_system.md R365). -/
def cycleEntry (p : Params) (k : OpKey) : Nat × Nat :=
  match p.cycles.find? fun entry => entry.key == k with
  | some entry => (entry.taken, entry.untaken)
  | none => (defaultCycles k).getD (4, 4)

/-- The T-cycles of an opcode, taken or untaken as executed (60_exceptions.md R400). -/
def cycleCost (p : Params) (k : OpKey) (taken : Bool) : Nat :=
  if taken then (cycleEntry p k).1 else (cycleEntry p k).2

/-- The cost of an idle step while halted (70_reset_and_hazards.md R572). -/
def idleCycles : Nat := 4
/-- The cost of an interrupt dispatch (R572). -/
def dispatchCycles : Nat := 20

end Sys2Proof.Machine
end

