-- ==== Sys2Proof/Machine/Operands.lean ====
section
/-! DEFINITION. The register operand forms: 8-bit registers, the pair tables `rp` and `rp2`, the flags and conditions
(00_scope.md R10, 30_encoding.md R163 to R165). -/

namespace Sys2Proof.Machine

/-- `x[i]`, an 8-bit register (R10). -/
def State.reg (s : State) : Reg8 → Byte
  | .b => s.cpu.b
  | .c => s.cpu.c
  | .d => s.cpu.d
  | .e => s.cpu.e
  | .h => s.cpu.h
  | .l => s.cpu.l
  | .a => s.cpu.a

/-- `x[i] <- v` (R10). -/
def State.setReg (s : State) (r : Reg8) (v : Byte) : State :=
  match r with
  | .b => { s with cpu := { s.cpu with b := v } }
  | .c => { s with cpu := { s.cpu with c := v } }
  | .d => { s with cpu := { s.cpu with d := v } }
  | .e => { s with cpu := { s.cpu with e := v } }
  | .h => { s with cpu := { s.cpu with h := v } }
  | .l => { s with cpu := { s.cpu with l := v } }
  | .a => { s with cpu := { s.cpu with a := v } }

/-- `BC = {B, C}` (R20). -/
def State.bc (s : State) : Word := wordOf s.cpu.b s.cpu.c
/-- `DE = {D, E}` (R20). -/
def State.de (s : State) : Word := wordOf s.cpu.d s.cpu.e
/-- `HL = {H, L}` (R20). -/
def State.hl (s : State) : Word := wordOf s.cpu.h s.cpu.l
/-- `AF = {A, F}` (R20). -/
def State.af (s : State) : Word := wordOf s.cpu.a s.cpu.f

/-- Writing F by any means forces bits 3:0 to 0 (R22). -/
def State.setF (s : State) (v : Byte) : State := { s with cpu := { s.cpu with f := v &&& 0xF0#8 } }

/-- Writing HL writes both halves (R20). -/
def State.setHl (s : State) (w : Word) : State := { s with cpu := { s.cpu with h := hiByte w, l := loByte w } }
/-- Writing BC writes both halves (R20). -/
def State.setBc (s : State) (w : Word) : State := { s with cpu := { s.cpu with b := hiByte w, c := loByte w } }
/-- Writing DE writes both halves (R20). -/
def State.setDe (s : State) (w : Word) : State := { s with cpu := { s.cpu with d := hiByte w, e := loByte w } }
/-- Writing AF writes A, and F with its low nibble 0 (R10, R22). -/
def State.setAf (s : State) (w : Word) : State :=
  { s with cpu := { s.cpu with a := hiByte w, f := loByte w &&& 0xF0#8 } }
/-- `SP <- w`. -/
def State.setSp (s : State) (w : Word) : State := { s with cpu := { s.cpu with sp := w } }
/-- `PC <- w` (R14). -/
def State.setPc (s : State) (w : Word) : State := { s with cpu := { s.cpu with pc := w } }
/-- `A <- v`. -/
def State.setA (s : State) (v : Byte) : State := { s with cpu := { s.cpu with a := v } }

/-- `rp[p]` (R10, R164). -/
def State.pair (s : State) : RegPair → Word
  | .bc => s.bc
  | .de => s.de
  | .hl => s.hl
  | .sp => s.cpu.sp

/-- `rp[p] <- w` (R10, R164). -/
def State.setPair (s : State) (p : RegPair) (w : Word) : State :=
  match p with
  | .bc => s.setBc w
  | .de => s.setDe w
  | .hl => s.setHl w
  | .sp => s.setSp w

/-- `rp2[p]` (R10, R164). -/
def State.stackPair (s : State) : StackPair → Word
  | .bc => s.bc
  | .de => s.de
  | .hl => s.hl
  | .af => s.af

/-- `rp2[p] <- w` (R10, R164, R22). -/
def State.setStackPair (s : State) (p : StackPair) (w : Word) : State :=
  match p with
  | .bc => s.setBc w
  | .de => s.setDe w
  | .hl => s.setHl w
  | .af => s.setAf w

/-- `F.Z = F[7]` (R10). -/
def State.flagZ (s : State) : Bool := s.cpu.f.getLsbD 7
/-- `F.N = F[6]` (R10). -/
def State.flagN (s : State) : Bool := s.cpu.f.getLsbD 6
/-- `F.H = F[5]` (R10). -/
def State.flagH (s : State) : Bool := s.cpu.f.getLsbD 5
/-- `F.C = F[4]` (R10). -/
def State.flagC (s : State) : Bool := s.cpu.f.getLsbD 4

/-- `Cond(cc)` (45_control.md R341). -/
def State.cond (s : State) : Cond → Bool
  | .nz => !s.flagZ
  | .z => s.flagZ
  | .nc => !s.flagC
  | .c => s.flagC

end Sys2Proof.Machine
end

