-- ==== Sys2Proof/Machine/Flags.lean ====
section
/-! DEFINITION. The arithmetic, logic and shift functions with their flags (42_alu8.md R250 to R284, 43_alu16.md R290 and
R294, 44_rotate_shift_bit.md R300). -/

namespace Sys2Proof.Machine

/-- A byte result with its four flags. -/
structure AluOut where
  res : Byte
  z : Bool
  n : Bool
  h : Bool
  c : Bool
  deriving DecidableEq, Repr

/-- F from the four flags: Z bit 7, N bit 6, H bit 5, C bit 4, bits 3:0 zero (10_state.md R22). -/
def packFlags (z n h c : Bool) : Byte :=
  BitVec.ofBool z ++ BitVec.ofBool n ++ BitVec.ofBool h ++ BitVec.ofBool c ++ 0#4

/-- All four flags written at once. -/
def State.setFlags (s : State) (z n h c : Bool) : State := s.setF (packFlags z n h c)

/-- `((a ^ b ^ res) & 0x10) ≠ 0`, the source's canonical half carry (R250, R251). -/
def halfCarry (a b res : Byte) : Bool := ((a ^^^ b ^^^ res) &&& 0x10#8) != 0x00#8

/-- `Add8(a, b, cin)` (R250). -/
def add8 (a b : Byte) (cin : Bool) : AluOut :=
  let sum := a.toNat + b.toNat + cin.toNat
  let res := BitVec.ofNat 8 sum
  { res := res, z := decide (res = 0x00#8), n := false, h := halfCarry a b res, c := decide (0xFF < sum) }

/-- `Sub8(a, b, cin)` (R251). -/
def sub8 (a b : Byte) (cin : Bool) : AluOut :=
  let diff : Int := (a.toNat : Int) - (b.toNat : Int) - (cin.toNat : Int)
  let res := BitVec.ofInt 8 diff
  { res := res, z := decide (res = 0x00#8), n := true, h := halfCarry a b res, c := decide (diff < 0) }

/-- AND: H = 1, C = 0 (R265). -/
def and8 (a b : Byte) : AluOut :=
  { res := a &&& b, z := decide (a &&& b = 0x00#8), n := false, h := true, c := false }

/-- XOR: N, H, C = 0 (R268). -/
def xor8 (a b : Byte) : AluOut :=
  { res := a ^^^ b, z := decide (a ^^^ b = 0x00#8), n := false, h := false, c := false }

/-- OR: N, H, C = 0 (R271). -/
def or8 (a b : Byte) : AluOut :=
  { res := a ||| b, z := decide (a ||| b = 0x00#8), n := false, h := false, c := false }

/-- `alu[y]` applied to A, the operand and the old carry (30_encoding.md R167). CP computes what SUB computes (R274). -/
def aluOut (op : AluOp) (a b : Byte) (carry : Bool) : AluOut :=
  match op with
  | .add => add8 a b false
  | .adc => add8 a b carry
  | .sub => sub8 a b false
  | .sbc => sub8 a b carry
  | .and => and8 a b
  | .xor => xor8 a b
  | .or => or8 a b
  | .cp => sub8 a b false

/-- An ALU operation on A: the result is written to A, but not by CP, and all four flags are written (R253 to R276). -/
def State.alu (s : State) (op : AluOp) (b : Byte) : State :=
  let out := aluOut op s.cpu.a b s.flagC
  let s' := s.setFlags out.z out.n out.h out.c
  match op with
  | .cp => s'
  | _ => s'.setA out.res

/-- The flags of INC: Z from the result, N = 0, H when the low nibble was 0xF, C kept (R277). -/
def State.incFlags (s : State) (old : Byte) : State :=
  s.setFlags (decide (old + 1#8 = 0x00#8)) false (decide (old &&& 0x0F#8 = 0x0F#8)) s.flagC

/-- The flags of DEC: Z from the result, N = 1, H when the low nibble was 0, C kept (R279). -/
def State.decFlags (s : State) (old : Byte) : State :=
  s.setFlags (decide (old - 1#8 = 0x00#8)) true (decide (old &&& 0x0F#8 = 0x00#8)) s.flagC

/-- DAA's result and carry from A and the flags N, H, C (R281). -/
def daaOut (a : Byte) (n h c : Bool) : Byte × Bool :=
  if n then
    let adj : Byte := (if h then 0x06#8 else 0x00#8) ||| (if c then 0x60#8 else 0x00#8)
    (a - adj, c)
  else
    let low : Bool := h || decide (0x09 < (a &&& 0x0F#8).toNat)
    let high : Bool := c || decide (0x99 < a.toNat)
    let adj : Byte := (if low then 0x06#8 else 0x00#8) ||| (if high then 0x60#8 else 0x00#8)
    (a + adj, high)

/-- A word result with half carry and carry. -/
structure WordOut where
  res : Word
  h : Bool
  c : Bool
  deriving DecidableEq, Repr

/-- `ADD HL,rr`: carries out of bit 11 and bit 15 (R290). -/
def addWord (a b : Word) : WordOut :=
  let sum := a.toNat + b.toNat
  { res := BitVec.ofNat 16 sum
    h := decide (0x0FFF < (a &&& 0x0FFF#16).toNat + (b &&& 0x0FFF#16).toNat)
    c := decide (0xFFFF < sum) }

/-- `AddSPSigned(sp, e)`: the flags are those of the unsigned addition of the low bytes (R294). -/
def addSpSigned (sp : Word) (e : Byte) : WordOut :=
  { res := sp + sext16 e
    h := decide (0x0F < (sp &&& 0x000F#16).toNat + (e &&& 0x0F#8).toNat)
    c := decide (0xFF < (sp &&& 0x00FF#16).toNat + e.toNat) }

/-- `Shift(kind, v, cin)`: the shifted byte (R300). -/
def shiftRes (kind : RotKind) (v : Byte) (cin : Bool) : Byte :=
  match kind with
  | .rlc => (v <<< 1) ||| (v >>> 7)
  | .rrc => (v >>> 1) ||| (v <<< 7)
  | .rl => (v <<< 1) ||| (BitVec.ofBool cin).setWidth 8
  | .rr => (v >>> 1) ||| ((BitVec.ofBool cin).setWidth 8 <<< 7)
  | .sla => v <<< 1
  | .sra => (v >>> 1) ||| (v &&& 0x80#8)
  | .swap => v.extractLsb' 0 4 ++ v.extractLsb' 4 4
  | .srl => v >>> 1

/-- `Shift(kind, v, cin)`: the carry out (R300). -/
def shiftCarry (kind : RotKind) (v : Byte) : Bool :=
  match kind with
  | .rlc => v.getLsbD 7
  | .rrc => v.getLsbD 0
  | .rl => v.getLsbD 7
  | .rr => v.getLsbD 0
  | .sla => v.getLsbD 7
  | .sra => v.getLsbD 0
  | .swap => false
  | .srl => v.getLsbD 0

/-- The flags of a `cb` rotate or shift: Z from the result, N = H = 0, C the carry out (R306). -/
def State.rotFlags (s : State) (kind : RotKind) (v : Byte) : State :=
  s.setFlags (decide (shiftRes kind v s.flagC = 0x00#8)) false false (shiftCarry kind v)

/-- The flags of BIT: Z the complement of the bit, N = 0, H = 1, C kept (R323). -/
def State.bitFlags (s : State) (b : Fin 8) (v : Byte) : State :=
  s.setFlags (!v.getLsbD b.val) false true s.flagC

end Sys2Proof.Machine
end

