-- ==== Sys2Proof/Machine/Memory.lean ====
section
/-! DEFINITION. Reading and writing one cell of an array, and the canonical form of an array (10_state.md R31, R33). -/

namespace Sys2Proof.Machine

/-! ### Lists of cells -/

/-- The byte listed at an offset, if there is one. -/
def Memory.known : Memory → Nat → Option Byte
  | [], _ => none
  | cell :: rest, a => if cell.1 = a then some cell.2 else Memory.known rest a

/-- The list without the cell of an offset. -/
def Memory.erase (m : Memory) (a : Nat) : Memory := m.filter fun cell => cell.1 != a

/-- The list with a cell put before the first one of a higher offset. -/
def Memory.insert (m : Memory) (a : Nat) (v : Byte) : Memory :=
  match m with
  | [] => [(a, v)]
  | cell :: rest => if a < cell.1 then (a, v) :: cell :: rest else cell :: Memory.insert rest a v

/-- Offsets strictly rising. -/
abbrev Memory.sorted (m : Memory) : Prop := m.Pairwise fun x y => x.1 < y.1

/-- Every listed offset lies in an array of `size` bytes. -/
abbrev Memory.within (size : Nat) (m : Memory) : Prop := ∀ cell ∈ m, cell.1 < size

/-! ### Arrays that start zeroed: external RAM and the cartridge image -/

/-- The byte at an offset: the listed one, or what an unlisted cell reads as. -/
def Memory.read (m : Memory) (a : Nat) : Byte := (m.known a).getD Config.unlistedByte

/-- The array with a byte stored at an offset; a byte equal to what an unlisted cell reads as is not listed. -/
def Memory.write (m : Memory) (a : Nat) (v : Byte) : Memory :=
  if v = Config.unlistedByte then m.erase a else (m.erase a).insert a v

/-- The canonical form: offsets strictly rising, no cell equal to what an unlisted offset reads as. -/
abbrev Memory.wf (m : Memory) : Prop := m.sorted ∧ ∀ cell ∈ m, cell.2 ≠ Config.unlistedByte

/-- The array of `size` bytes that holds the cells of a list, a later one over an earlier one; cells outside it are dropped. -/
def Memory.ofCells (size : Nat) (cells : List Host.Cell) : Memory :=
  cells.foldl (fun m cell => if cell.1 < size then m.write cell.1 cell.2 else m) []

/-- The array whose bytes from an offset on are those of a list. -/
def Memory.ofBytes : Nat → List Byte → Memory
  | _, [] => []
  | a, v :: rest => if v = Config.unlistedByte then Memory.ofBytes (a + 1) rest else (a, v) :: Memory.ofBytes (a + 1) rest

/-! ### RAM whose contents after reset are not known (R33) -/

/-- The number of an array, the first argument of its power-on bytes. -/
def RamArray.index : RamArray → Nat
  | .vram => 0
  | .wram => 1
  | .oam => 2
  | .hram => 3
  | .io => 4

/-- The byte at an offset of a RAM array: the known one, or its power-on byte (R33; log entry 1). -/
def Ram.read (k : RamArray) (m : Ram) (a : Nat) : Byte := (Memory.known m a).getD (Config.powerOnByte k.index a)

/-- The array with a byte stored at an offset: the byte is known from then on. -/
def Ram.write (m : Ram) (a : Nat) (v : Byte) : Ram := Memory.insert (Memory.erase m a) a v

/-- The canonical form of a RAM array: offsets strictly rising. -/
abbrev Ram.wf (m : Ram) : Prop := Memory.sorted m

/-- Every known cell lies in an array of `size` bytes. -/
abbrev Ram.within (size : Nat) (m : Ram) : Prop := Memory.within size m

/-- The RAM array of `size` bytes in which the cells of a list are known, a later one over an earlier one. -/
def Ram.ofCells (size : Nat) (cells : List Host.Cell) : Ram :=
  cells.foldl (fun m cell => if cell.1 < size then Ram.write m cell.1 cell.2 else m) []

end Sys2Proof.Machine
end

