-- ==== Sys2Proof/Machine/Ppu.lean ====
section
/-! DEFINITION. The PPU agent (61_ppu.md): the scanline state machine and the rasterizer. It owns its registers and the
frame buffer, reads VRAM and OAM directly, and sets IF bits 0 and 1; it touches nothing else (R451). -/

namespace Sys2Proof.Machine

/-- The PPU and the IF bits it may set (R451). -/
structure PpuBus where
  ppu : Ppu
  iflag : BitVec 5
  deriving DecidableEq, Repr

/-- The two bits of a mode, STAT bits 1:0 (10_state.md R40). -/
def PpuMode.bits : PpuMode → BitVec 2
  | .hblank => 0#2
  | .vblank => 1#2
  | .oamSearch => 2#2
  | .pixelTransfer => 3#2

/-! ### The rasterizer (R480 to R495) -/

/-- LCDC bit 0 (10_state.md R39). -/
def Ppu.bgEnable (p : Ppu) : Bool := p.lcdc.getLsbD 0
/-- LCDC bit 1 (R39). -/
def Ppu.objEnable (p : Ppu) : Bool := p.lcdc.getLsbD 1
/-- Sprite height by LCDC bit 2: 8 or 16 lines (R39, R490). -/
def Ppu.objHeight (p : Ppu) : Nat := if p.lcdc.getLsbD 2 then 16 else 8
/-- Background tile map base by LCDC bit 3 (R39, R482). -/
def Ppu.bgMap (p : Ppu) : Nat := if p.lcdc.getLsbD 3 then 0x9C00 else 0x9800
/-- LCDC bit 5 (R39). -/
def Ppu.winEnable (p : Ppu) : Bool := p.lcdc.getLsbD 5
/-- Window tile map base by LCDC bit 6 (R39, R486). -/
def Ppu.winMap (p : Ppu) : Nat := if p.lcdc.getLsbD 6 then 0x9C00 else 0x9800

/-- The VRAM byte at bus address `a` of 0x8000 to 0x9FFF, read directly (20_memory.md R83). Past the array, where the spec
gives no result, it is a free value (log entry 9). -/
def Ppu.vramByte (draw : Nat) (vram : Ram) (p : Ppu) (a : Nat) : Byte :=
  if a - 0x8000 < 0x2000 then vram.read .vram (a - 0x8000) else Config.freeVramByte draw p.ly.toNat (a - 0x8000)

/-- `TileAddr(idx)`, LCDC bit 4 selecting unsigned indexes from 0x8000 or signed ones from 0x9000 (R481). -/
def Ppu.tileAddr (p : Ppu) (idx : Byte) : Nat :=
  if p.lcdc.getLsbD 4 then 0x8000 + idx.toNat * 16 else (0x9000 + idx.toInt * 16).toNat

/-- `PixelIndex(addr, row, px)`: plane 1, the second byte of the row, gives the high bit (R481). -/
def Ppu.pixelIndex (draw : Nat) (vram : Ram) (p : Ppu) (addr row px : Nat) : BitVec 2 :=
  let lo := p.vramByte draw vram (addr + 2 * row)
  let hi := p.vramByte draw vram (addr + 2 * row + 1)
  BitVec.ofBool (hi.getLsbD (7 - px)) ++ BitVec.ofBool (lo.getLsbD (7 - px))

/-- `BgIndex(col, ly)` (R482). -/
def Ppu.bgIndex (draw : Nat) (vram : Ram) (p : Ppu) (col : Nat) : BitVec 2 :=
  let x := (p.scx.toNat + col) % 256
  let y := (p.scy.toNat + p.ly.toNat) % 256
  let idx := p.vramByte draw vram (p.bgMap + (y / 8) * 32 + x / 8)
  p.pixelIndex draw vram (p.tileAddr idx) (y % 8) (x % 8)

/-- `Shade(pal, idx) = (pal >> (2 × idx)) & 3` (R483). -/
def shadeOf (pal : Byte) (idx : BitVec 2) : Shade := pal.extractLsb' (2 * idx.toNat) 2

/-- `WindowOnLine(ly)` (R486). -/
def Ppu.windowOnLine (p : Ppu) : Bool :=
  p.winEnable && p.bgEnable && decide (p.wy.toNat ≤ p.ly.toNat) && decide (p.wx.toNat ≤ 166)

/-- `WindowCovers(col)` (R486). -/
def Ppu.windowCovers (p : Ppu) (col : Nat) : Bool := decide (p.wx.toNat ≤ col + 7)

/-- `WinIndex(col)` (R486). -/
def Ppu.winIndex (draw : Nat) (vram : Ram) (p : Ppu) (col : Nat) : BitVec 2 :=
  let wx := col + 7 - p.wx.toNat
  let wy := p.windowLine
  let idx := p.vramByte draw vram (p.winMap + (wy / 8) * 32 + wx / 8)
  p.pixelIndex draw vram (p.tileAddr idx) (wy % 8) (wx % 8)

/-- Byte `j` of OAM entry `k`: Y plus 16, X plus 8, tile, attributes (R490). -/
def oamByte (oam : Ram) (k j : Nat) : Byte := oam.read .oam (4 * k + j)

/-- Entry `k`'s Y-range contains the line (R490). -/
def Ppu.spriteOnLine (oam : Ram) (p : Ppu) (k : Nat) : Bool :=
  decide ((oamByte oam k 0).toNat ≤ p.ly.toNat + 16) &&
    decide (p.ly.toNat + 16 < (oamByte oam k 0).toNat + p.objHeight)

/-- `SelectSprites(ly)`: the first ten entries on the line, in OAM order (R490). -/
def Ppu.selectSprites (oam : Ram) (p : Ppu) : List Nat :=
  ((List.range 40).filter fun k => p.spriteOnLine oam k).take 10

/-- `SpriteIndex(k, col, ly)` (R491). -/
def Ppu.spriteIndex (draw : Nat) (vram oam : Ram) (p : Ppu) (k col : Nat) : BitVec 2 :=
  let attr := oamByte oam k 3
  let row0 := p.ly.toNat + 16 - (oamByte oam k 0).toNat
  let row := if attr.getLsbD 6 then p.objHeight - 1 - row0 else row0
  let px0 := col + 8 - (oamByte oam k 1).toNat
  let px := if attr.getLsbD 5 then 7 - px0 else px0
  let tile := if p.objHeight = 16 then oamByte oam k 2 &&& 0xFE#8 else oamByte oam k 2
  p.pixelIndex draw vram (0x8000 + tile.toNat * 16) row px

/-- Entry `k` covers the column (R495). -/
def spriteCovers (oam : Ram) (k col : Nat) : Bool :=
  decide ((oamByte oam k 1).toNat ≤ col + 8) && decide (col + 8 < (oamByte oam k 1).toNat + 8)

/-- The winning sprite of a column: of the selected entries that cover it with an index other than 0, the one of lowest X,
the earlier entry where X is equal (R492). `sel` is in OAM order. -/
def Ppu.winningSprite (draw : Nat) (vram oam : Ram) (p : Ppu) (sel : List Nat) (col : Nat) : Option Nat :=
  (sel.filter fun k => spriteCovers oam k col && p.spriteIndex draw vram oam k col != 0#2).foldl
    (fun best k =>
      match best with
      | none => some k
      | some j => if (oamByte oam k 1).toNat < (oamByte oam j 1).toNat then some k else some j)
    none

/-- The index of the background or window layer at a column; 0 when LCDC bit 0 is clear (R482, R486, R495). -/
def Ppu.layerIndex (draw : Nat) (vram : Ram) (p : Ppu) (col : Nat) : BitVec 2 :=
  if p.bgEnable then
    if p.windowOnLine && p.windowCovers col then p.winIndex draw vram col else p.bgIndex draw vram col
  else 0#2

/-- The shade of a column of the current line, given the selected sprites (R492, R495). -/
def Ppu.pixel (draw : Nat) (vram oam : Ram) (p : Ppu) (sel : List Nat) (col : Nat) : Shade :=
  let layer := p.layerIndex draw vram col
  let under := if p.bgEnable then shadeOf p.bgp layer else 0#2
  match p.winningSprite draw vram oam sel col with
  | none => under
  | some k =>
    let attr := oamByte oam k 3
    if attr.getLsbD 7 && layer != 0#2 then under
    else shadeOf (if attr.getLsbD 4 then p.obp1 else p.obp0) (p.spriteIndex draw vram oam k col)

/-- The sprites drawn on the line: none when LCDC bit 1 is clear (R490, R495). -/
def Ppu.lineSprites (oam : Ram) (p : Ppu) : List Nat := if p.objEnable then p.selectSprites oam else []

/-- The 160 shades of the current line (R495). -/
def Ppu.lineShades (draw : Nat) (vram oam : Ram) (p : Ppu) : Vector Shade 160 :=
  let sel := p.lineSprites oam
  Vector.ofFn fun col : Fin 160 => p.pixel draw vram oam sel col.val

/-- `RenderScanline(ly)`: writes row `ly` in full and advances the window line counter if the window was on (R487, R495). -/
def Ppu.renderScanline (draw : Nat) (vram oam : Ram) (p : Ppu) : Ppu :=
  { p with
    frameBuffer := p.frameBuffer.setIfInBounds p.ly.toNat (p.lineShades draw vram oam)
    windowLine := if p.windowOnLine then p.windowLine + 1 else p.windowLine }

/-! ### The scanline state machine (R460 to R466) -/

/-- The STAT enable bit of a mode entry; there is none for mode 3 (R461, R465). -/
def Ppu.modeIntEnable (p : Ppu) : PpuMode → Bool
  | .hblank => p.statEnable.getLsbD 0
  | .vblank => p.statEnable.getLsbD 1
  | .oamSearch => p.statEnable.getLsbD 2
  | .pixelTransfer => false

/-- `EnterMode(m)` (R461). -/
def PpuBus.enterMode (m : PpuMode) (b : PpuBus) : PpuBus where
  ppu := { b.ppu with mode := m }
  iflag := if b.ppu.modeIntEnable m then b.iflag ||| 0b00010#5 else b.iflag

/-- `UpdateCoincidence()` (R461, R466). -/
def PpuBus.updateCoincidence (b : PpuBus) : PpuBus where
  ppu := { b.ppu with coincidence := decide (b.ppu.ly = b.ppu.lyc) }
  iflag :=
    if decide (b.ppu.ly = b.ppu.lyc) && !b.ppu.coincidence && b.ppu.statEnable.getLsbD 3 then b.iflag ||| 0b00010#5
    else b.iflag

/-- `SetLY(v)` (R461, R466). -/
def PpuBus.setLy (v : Byte) (b : PpuBus) : PpuBus :=
  PpuBus.updateCoincidence { b with ppu := { b.ppu with ly := v } }

/-- The start of the next scanline (R461, R463): LY steps, 153 wrapping to 0; line 144 begins VBlank; a visible line begins
mode 2; lines 145 to 153 stay in mode 1 without a new entry. -/
def PpuBus.nextLine (b : PpuBus) : PpuBus :=
  let b1 := PpuBus.setLy (BitVec.ofNat 8 ((b.ppu.ly.toNat + 1) % 154)) { b with ppu := { b.ppu with modeCycles := 0 } }
  if b1.ppu.ly = 144#8 then
    let b2 := b1.enterMode .vblank
    { ppu := { b2.ppu with frameReadyLatch := true, windowLine := 0 }, iflag := b2.iflag ||| 0b00001#5 }
  else if b1.ppu.ly < 144#8 then b1.enterMode .oamSearch
  else b1

/-- `PpuTick()` (R461). -/
def PpuBus.tick (draw : Nat) (vram oam : Ram) (b : PpuBus) : PpuBus :=
  let p := { b.ppu with modeCycles := b.ppu.modeCycles + 1 }
  if p.modeCycles = 456 then PpuBus.nextLine { b with ppu := p }
  else if p.mode = .oamSearch ∧ p.modeCycles = 80 then PpuBus.enterMode .pixelTransfer { b with ppu := p }
  else if p.mode = .pixelTransfer ∧ p.modeCycles = 252 then
    PpuBus.enterMode .hblank { b with ppu := p.renderScanline draw vram oam }
  else { b with ppu := p }

/-- `PpuStep(c)`: `c` successive ticks (R460). -/
def PpuBus.run (draw : Nat) (vram oam : Ram) : Nat → PpuBus → PpuBus
  | 0, b => b
  | n + 1, b => PpuBus.run draw vram oam n (b.tick draw vram oam)

/-- STAT as the CPU reads it (R472). -/
def Ppu.statByte (p : Ppu) : Byte := 1#1 ++ p.statEnable ++ BitVec.ofBool p.coincidence ++ p.mode.bits

end Sys2Proof.Machine
end

