-- ==== Sys2Proof/Machine/Timer.lean ====
section
/-! DEFINITION. The Timer agent (62_timer.md). It owns its registers and sets IF bit 2; it touches nothing else. -/

namespace Sys2Proof.Machine

/-- The Timer's registers and the IF bits it may set (R522, R524). -/
structure TimerBus where
  timer : Timer
  iflag : BitVec 5
  deriving DecidableEq, Repr

/-- `Period(TAC[1:0])` (R521). -/
def timerPeriod (tac : Byte) : Nat :=
  match (tac.extractLsb' 0 2).toNat with
  | 0 => 1024
  | 1 => 16
  | 2 => 64
  | _ => 256

/-- TAC bit 2 enables TIMA counting (R521). -/
def timerEnabled (tac : Byte) : Bool := tac.getLsbD 2

/-- One increment of TIMA; on overflow from 0xFF it reloads from TMA and sets IF bit 2 (R522, R524). -/
def TimerBus.incTima (b : TimerBus) : TimerBus :=
  if b.timer.tima = 0xFF#8 then
    { timer := { b.timer with tima := b.timer.tma }, iflag := b.iflag ||| 0b00100#5 }
  else { b with timer := { b.timer with tima := b.timer.tima + 1#8 } }

/-- `TimerTick()` (R522). -/
def TimerBus.tick (b : TimerBus) : TimerBus :=
  let t := { b.timer with divCounter := b.timer.divCounter + 1#16 }
  if timerEnabled t.tac then
    if timerPeriod t.tac ≤ t.timaAcc + 1 then
      TimerBus.incTima { b with timer := { t with timaAcc := t.timaAcc + 1 - timerPeriod t.tac } }
    else { b with timer := { t with timaAcc := t.timaAcc + 1 } }
  else { b with timer := t }

/-- `TimerStep(c)`: `c` successive ticks (R522). -/
def TimerBus.run : Nat → TimerBus → TimerBus
  | 0, b => b
  | n + 1, b => TimerBus.run n b.tick

end Sys2Proof.Machine
end

