-- ==== Sys2Proof/Machine/Ops.lean ====
section
/-! DEFINITION. The named operations over memory and registers: the bank selector, the address map, the I/O registers, the
MMU's read and write, the stack, what every instruction does to PC and the cycle count, the pending interrupts, taking an
interrupt and returning from one, and the undefined-opcode exception. -/

namespace Sys2Proof.Machine

/-! ### The bank selector (21_mmu_io_mbc1.md R114, R115) -/

/-- `EffRomBank()` (R114). -/
def State.effRomBank (s : State) : Nat :=
  let n := if s.mbc.mode1 then s.mbc.bank1.toNat else s.mbc.bank2.toNat * 32 + s.mbc.bank1.toNat
  if s.params.romBanks - 1 < n then s.params.romBanks - 1 else n

/-- The number of external RAM banks, `ceil(RAM_BYTES / 8192)` (R115). -/
def State.ramBanks (s : State) : Nat := (s.params.ramBytes + 8191) / 8192

/-- `EffRamBank()` (R115). -/
def State.effRamBank (s : State) : Nat :=
  let n := if s.mbc.mode1 then s.mbc.bank2.toNat else 0
  if 0 < s.ramBanks ∧ s.ramBanks - 1 < n then s.ramBanks - 1 else n

/-- The external RAM byte behind an offset of its window, if RAM is enabled and there is one (R120, R121). -/
def State.extRamOffset (s : State) (off : Nat) : Option Nat :=
  let at_ := s.effRamBank * 0x2000 + off
  if s.mbc.ramEnabled && decide (at_ < s.params.ramBytes) then some at_ else none

/-! ### The address map (20_memory.md R71) -/

/-- A region of the address map with the offset into it (R71). -/
inductive Region where
  /-- 0x0000 to 0x3FFF. -/
  | romFixed (off : Nat)
  /-- 0x4000 to 0x7FFF. -/
  | romBanked (off : Nat)
  /-- 0x8000 to 0x9FFF. -/
  | vram (off : Nat)
  /-- 0xA000 to 0xBFFF. -/
  | extRam (off : Nat)
  /-- 0xC000 to 0xDFFF, and 0xE000 to 0xFDFF as echo. -/
  | wram (off : Nat)
  /-- 0xFE00 to 0xFE9F. -/
  | oam (off : Nat)
  /-- 0xFEA0 to 0xFEFF. -/
  | unused
  /-- 0xFF00 to 0xFF7F. -/
  | io (off : Nat)
  /-- 0xFF80 to 0xFFFE. -/
  | hram (off : Nat)
  /-- 0xFFFF. -/
  | ie
  deriving DecidableEq, Repr

/-- The region of an address (R71). -/
def regionOf (a : Word) : Region :=
  let n := a.toNat
  if n < 0x4000 then .romFixed n
  else if n < 0x8000 then .romBanked (n - 0x4000)
  else if n < 0xA000 then .vram (n - 0x8000)
  else if n < 0xC000 then .extRam (n - 0xA000)
  else if n < 0xE000 then .wram (n - 0xC000)
  else if n < 0xFE00 then .wram (n - 0xE000)
  else if n < 0xFEA0 then .oam (n - 0xFE00)
  else if n < 0xFF00 then .unused
  else if n < 0xFF80 then .io (n - 0xFF00)
  else if n < 0xFFFF then .hram (n - 0xFF80)
  else .ie

/-! ### The I/O registers (10_state.md R45, 21_mmu_io_mbc1.md R140) -/

/-- A register of 0xFF00 to 0xFF7F, or a plain backing byte (R45). -/
inductive IoReg where
  | joyp
  | sb
  | sc
  | div
  | tima
  | tma
  | tac
  | iflag
  | lcdc
  | stat
  | scy
  | scx
  | ly
  | lyc
  | dma
  | bgp
  | obp0
  | obp1
  | wy
  | wx
  | backing (off : Nat)
  deriving DecidableEq, Repr

/-- The register at offset `off` from 0xFF00 (R45). -/
def ioRegOf (off : Nat) : IoReg :=
  if off = 0x00 then .joyp
  else if off = 0x01 then .sb
  else if off = 0x02 then .sc
  else if off = 0x04 then .div
  else if off = 0x05 then .tima
  else if off = 0x06 then .tma
  else if off = 0x07 then .tac
  else if off = 0x0F then .iflag
  else if off = 0x40 then .lcdc
  else if off = 0x41 then .stat
  else if off = 0x42 then .scy
  else if off = 0x43 then .scx
  else if off = 0x44 then .ly
  else if off = 0x45 then .lyc
  else if off = 0x46 then .dma
  else if off = 0x47 then .bgp
  else if off = 0x48 then .obp0
  else if off = 0x49 then .obp1
  else if off = 0x4A then .wy
  else if off = 0x4B then .wx
  else .backing off

/-- `JoypLow()`: the selected rows, active-low; bits 3:0 of `pressed` are the direction row, bits 7:4 the button row
(21_mmu_io_mbc1.md R125, R126). -/
def Joypad.low (j : Joypad) : BitVec 4 :=
  let dirs : BitVec 4 := if j.select.getLsbD 0 then 0#4 else j.pressed.extractLsb' 0 4
  let btns : BitVec 4 := if j.select.getLsbD 1 then 0#4 else j.pressed.extractLsb' 4 4
  ~~~(dirs ||| btns)

/-- `IoRead` of a register (R140). -/
def State.ioRead (s : State) : IoReg → Byte
  | .joyp => 0b11#2 ++ s.joypad.select ++ s.joypad.low
  | .sb => s.serial.sb
  | .sc => s.serial.sc
  | .div => hiByte s.timer.divCounter
  | .tima => s.timer.tima
  | .tma => s.timer.tma
  | .tac => s.timer.tac
  | .iflag => 0b111#3 ++ s.iflag
  | .lcdc => s.ppu.lcdc
  | .stat => s.ppu.statByte
  | .scy => s.ppu.scy
  | .scx => s.ppu.scx
  | .ly => s.ppu.ly
  | .lyc => s.ppu.lyc
  | .dma => s.ppu.dma
  | .bgp => s.ppu.bgp
  | .obp0 => s.ppu.obp0
  | .obp1 => s.ppu.obp1
  | .wy => s.ppu.wy
  | .wx => s.ppu.wx
  | .backing off => s.io.read .io off

/-! ### Reading (20_memory.md R80) -/

/-- Which access of an instruction a read is: it only tells apart the unspecified bytes of 0xFEA0 to 0xFEFF, where two
reads in one step may differ (R78; log entry 2). -/
inductive ReadSite where
  | opcode
  | operand1
  | operand2
  | data
  | dataHigh
  deriving DecidableEq, Repr

/-- The number of an access site. -/
def ReadSite.index : ReadSite → Nat
  | .opcode => 0
  | .operand1 => 1
  | .operand2 => 2
  | .data => 3
  | .dataHigh => 4

/-- VRAM is blocked to the CPU in mode 3 (R80). -/
def PpuMode.blocksVram (m : PpuMode) : Bool := m == .pixelTransfer
/-- OAM is blocked to the CPU in modes 2 and 3 (R80). -/
def PpuMode.blocksOam (m : PpuMode) : Bool := m == .oamSearch || m == .pixelTransfer

/-- `MmuRead(a)` with the BLOCKING switch as an argument (R80; DMA reads with it false, R83). -/
def State.mmuRead (blocking : Bool) (site : ReadSite) (s : State) (a : Word) : Byte :=
  match regionOf a with
  | .romFixed off => s.rom.read off
  | .romBanked off => s.rom.read (s.effRomBank * 0x4000 + off)
  | .vram off => if blocking && s.ppu.mode.blocksVram then 0xFF#8 else s.vram.read .vram off
  | .extRam off =>
    match s.extRamOffset off with
    | some at_ => s.extRam.read at_
    | none => 0xFF#8
  | .wram off => s.wram.read .wram off
  | .oam off => if blocking && s.ppu.mode.blocksOam then 0xFF#8 else s.oam.read .oam off
  | .unused => Config.freeByte s.draws site.index a.toNat
  | .io off => s.ioRead (ioRegOf off)
  | .hram off => s.hram.read .hram off
  | .ie => s.ie

/-- `MemRead(a, 1)` by an instruction at a given access site (00_scope.md R11). -/
def State.readAt (site : ReadSite) (s : State) (a : Word) : Byte := s.mmuRead s.params.blocking site a

/-- `MemRead(a, 1)` of a data operand (R11). -/
def State.read (s : State) (a : Word) : Byte := s.readAt .data a

/-! ### Writing (20_memory.md R81) -/

/-- The PPU with the IF register it sets bits of (61_ppu.md R451). -/
def State.ppuBus (s : State) : PpuBus := { ppu := s.ppu, iflag := s.iflag }
/-- The PPU and IF put back. -/
def State.setPpuBus (s : State) (b : PpuBus) : State := { s with ppu := b.ppu, iflag := b.iflag }
/-- The Timer with the IF register it sets a bit of (62_timer.md R522). -/
def State.timerBus (s : State) : TimerBus := { timer := s.timer, iflag := s.iflag }
/-- The Timer and IF put back. -/
def State.setTimerBus (s : State) (b : TimerBus) : State := { s with timer := b.timer, iflag := b.iflag }

/-- One byte of the OAM copy: the source is read through the MMU as if BLOCKING were false (R135). -/
def State.dmaByte (v : Byte) (s : State) (i : Nat) : State :=
  { s with oam := s.oam.write i (s.mmuRead false .data (BitVec.ofNat 16 (v.toNat * 256 + i))) }

/-- A write of 0xFF46: the byte is kept and 160 bytes are copied to OAM in ascending order (R135). -/
def State.dmaWrite (s : State) (v : Byte) : State :=
  (List.range 160).foldl (State.dmaByte v) { s with ppu := { s.ppu with dma := v } }

/-- A write of SC; with bit 7 set the host callback receives SB (R131). -/
def State.scWrite (s : State) (v : Byte) : State :=
  { s with
    serial :=
      { s.serial with
        sc := v
        sent := if v.getLsbD 7 then s.serial.sent ++ [s.serial.sb] else s.serial.sent } }

/-- `IoWrite` of a register (R140). -/
def State.ioWrite (s : State) (r : IoReg) (v : Byte) : State :=
  match r with
  | .joyp => { s with joypad := { s.joypad with select := v.extractLsb' 4 2 } }
  | .sb => { s with serial := { s.serial with sb := v } }
  | .sc => s.scWrite v
  | .div => { s with timer := { s.timer with divCounter := 0#16 } }
  | .tima => { s with timer := { s.timer with tima := v } }
  | .tma => { s with timer := { s.timer with tma := v } }
  | .tac => { s with timer := { s.timer with tac := v } }
  | .iflag => { s with iflag := v.extractLsb' 0 5 }
  | .lcdc => { s with ppu := { s.ppu with lcdc := v } }
  | .stat => { s with ppu := { s.ppu with statEnable := v.extractLsb' 3 4 } }
  | .scy => { s with ppu := { s.ppu with scy := v } }
  | .scx => { s with ppu := { s.ppu with scx := v } }
  | .ly => s.setPpuBus (s.ppuBus.setLy 0x00#8)
  | .lyc => s.setPpuBus (PpuBus.updateCoincidence { s.ppuBus with ppu := { s.ppu with lyc := v } })
  | .dma => s.dmaWrite v
  | .bgp => { s with ppu := { s.ppu with bgp := v } }
  | .obp0 => { s with ppu := { s.ppu with obp0 := v } }
  | .obp1 => { s with ppu := { s.ppu with obp1 := v } }
  | .wy => { s with ppu := { s.ppu with wy := v } }
  | .wx => { s with ppu := { s.ppu with wx := v } }
  | .backing off => { s with io := s.io.write off v }

/-- A write into 0x0000 to 0x3FFF: RAM enable below 0x2000, else the low bits of the ROM bank, 0 promoted to 1
(21_mmu_io_mbc1.md R110, R111). -/
def State.bankWriteLow (s : State) (off : Nat) (v : Byte) : State :=
  if off < 0x2000 then { s with mbc := { s.mbc with ramEnabled := decide (v.extractLsb' 0 4 = 0xA#4) } }
  else
    { s with
      mbc := { s.mbc with bank1 := if v.extractLsb' 0 5 = 0#5 then 1#5 else v.extractLsb' 0 5 } }

/-- A write into 0x4000 to 0x7FFF: the upper bits below 0x6000, else the banking mode (R112, R113). -/
def State.bankWriteHigh (s : State) (off : Nat) (v : Byte) : State :=
  if off < 0x2000 then { s with mbc := { s.mbc with bank2 := v.extractLsb' 0 2 } }
  else { s with mbc := { s.mbc with mode1 := v.getLsbD 0 } }

/-- `MmuWrite(a, v)`, which is `MemWrite(a, 1, v)` (R81). -/
def State.write (s : State) (a : Word) (v : Byte) : State :=
  match regionOf a with
  | .romFixed off => s.bankWriteLow off v
  | .romBanked off => s.bankWriteHigh off v
  | .vram off => if s.params.blocking && s.ppu.mode.blocksVram then s else { s with vram := s.vram.write off v }
  | .extRam off =>
    match s.extRamOffset off with
    | some at_ => { s with extRam := s.extRam.write at_ v }
    | none => s
  | .wram off => { s with wram := s.wram.write off v }
  | .oam off => if s.params.blocking && s.ppu.mode.blocksOam then s else { s with oam := s.oam.write off v }
  | .unused => s
  | .io off => s.ioWrite (ioRegOf off) v
  | .hram off => { s with hram := s.hram.write off v }
  | .ie => { s with ie := v }

/-- `MemWrite(a, 2, v)`: the low byte first, then the high byte at the next address (00_scope.md R11, 20_memory.md R75). -/
def State.writeWord (s : State) (a v : Word) : State := (s.write a (loByte v)).write (a + 1#16) (hiByte v)

/-! ### The stack (00_scope.md R13) -/

/-- `Push16(v)`: the high byte to SP−1, then the low byte to SP−2, then SP decreases by 2. -/
def State.push16 (s : State) (v : Word) : State :=
  ((s.write (s.cpu.sp - 1#16) (hiByte v)).write (s.cpu.sp - 2#16) (loByte v)).setSp (s.cpu.sp - 2#16)

/-- The word `Pop16()` returns: the low byte from SP, the high byte from SP+1. -/
def State.popValue (s : State) : Word := wordOf (s.readAt .dataHigh (s.cpu.sp + 1#16)) (s.readAt .data s.cpu.sp)

/-- What `Pop16()` does to SP. -/
def State.popped (s : State) : State := s.setSp (s.cpu.sp + 2#16)

/-! ### Fetching and finishing an instruction (00_scope.md R12, R14) -/

/-- PC after the `len` bytes of an instruction have been fetched. With the HALT-bug latch set the opcode fetch does not
advance PC and clears the latch (R12). -/
def State.fetched (s : State) (len : Nat) : State :=
  { s with
    cpu :=
      { s.cpu with
        pc := if s.cpu.haltBug then s.cpu.pc + BitVec.ofNat 16 (len - 1) else s.cpu.pc + BitVec.ofNat 16 len
        haltBug := false } }

/-- The address of the first operand byte: after the opcode byte, or at it when the HALT-bug latch is set (R12, R361). -/
def State.operandAddr (s : State) : Word := if s.cpu.haltBug then s.cpu.pc else s.cpu.pc + 1#16

/-- `cycles <- n`: the count the step returns (R14). -/
def State.withCost (s : State) (n : Nat) : State := { s with cost := n }

/-- The end of an instruction: it returns the CYCLES entry of its opcode, taken or untaken as executed (60_exceptions.md
R400). -/
def State.finish (s : State) (k : OpKey) (taken : Bool) : Result := .next (s.withCost (cycleCost s.params k taken))

/-! ### Interrupts (60_exceptions.md R402 to R410) -/

/-- `Pending = IE & IF & 0x1F` (R402). -/
def State.pending (s : State) : BitVec 5 := s.ie.extractLsb' 0 5 &&& s.iflag

/-- The index of a source in IF and IE (R403). -/
def IntSource.index : IntSource → Nat
  | .vblank => 0
  | .stat => 1
  | .timer => 2
  | .serial => 3
  | .joypad => 4

/-- The bit of a source in IF and IE (R403). -/
def IntSource.mask (i : IntSource) : BitVec 5 := 1#5 <<< i.index

/-- The vector of a source, `0x0040 + 8 × index` (R403). -/
def IntSource.vector (i : IntSource) : Word := BitVec.ofNat 16 (0x40 + 8 * i.index)

/-- The lowest-numbered pending source (R410, R412). -/
def lowestPending (pend : BitVec 5) : Option IntSource :=
  if pend.getLsbD 0 then some .vblank
  else if pend.getLsbD 1 then some .stat
  else if pend.getLsbD 2 then some .timer
  else if pend.getLsbD 3 then some .serial
  else if pend.getLsbD 4 then some .joypad
  else none

/-- Interrupt dispatch, the hardware's only trap entry (R410): the source's IF bit, IME and pendingIME are cleared, PC is
pushed, PC goes to the vector, and the step returns 20. -/
def State.takeInterrupt (s : State) (i : IntSource) : State :=
  let s1 := { s with iflag := s.iflag &&& ~~~i.mask, cpu := { s.cpu with ime := false, pendingIme := false } }
  ((s1.push16 s1.cpu.pc).setPc i.vector).withCost dispatchCycles

/-- The return from an interrupt, RETI's operation: PC is popped and IME is set at once (45_control.md R339). -/
def State.returnFromInterrupt (s : State) : State :=
  let s1 := s.popped.setPc s.popValue
  { s1 with cpu := { s1.cpu with ime := true } }

/-- `requestInterrupt(source)`: sets the source's IF bit (R405). -/
def State.requestInterrupt (s : State) (i : IntSource) : State := { s with iflag := s.iflag ||| i.mask }

/-! ### The synchronous exception (46_system.md R365, 60_exceptions.md R430) -/

/-- The state an undefined opcode leaves: `locked` set with the byte and the address it was fetched from, PC after the
byte (R365). -/
def State.lockedAfter (s : State) (byte : Byte) : State :=
  let s1 := s.fetched 1
  { s1 with cpu := { s1.cpu with locked := some { byte := byte, pc := s.cpu.pc } } }

/-- `raise UndefinedOpcode(byte, a)`, `a` the address of the byte (R365, R430). -/
def State.raiseUndefined (s : State) (byte : Byte) : Result :=
  .fault (.undefinedOpcode byte s.cpu.pc (s.lockedAfter byte))

end Sys2Proof.Machine
end

