-- ==== Sys2Proof/Machine/HostOps.lean ====
section
/-! DEFINITION. The host-facing operations (00_scope.md R3, R16): buttons, interrupt requests, frameReady and the frame
buffer, reset; and the turn the host takes before a system step. -/

namespace Sys2Proof.Machine

/-- `pressButton(id)`: IF bit 4 is set when a visible JOYP line falls (21_mmu_io_mbc1.md R128). -/
def State.pressButton (s : State) (id : Fin 8) : State :=
  let after := { s.joypad with pressed := s.joypad.pressed ||| bitMask id }
  let s1 := { s with joypad := after }
  if s.joypad.low &&& ~~~after.low = 0#4 then s1 else s1.requestInterrupt .joypad

/-- `releaseButton(id)` raises nothing (R128). -/
def State.releaseButton (s : State) (id : Fin 8) : State :=
  { s with joypad := { s.joypad with pressed := s.joypad.pressed &&& ~~~bitMask id } }

/-- `frameReady()`: the latch, which the call clears (61_ppu.md R464). -/
def State.frameReady (s : State) : Bool × State :=
  (s.ppu.frameReadyLatch, { s with ppu := { s.ppu with frameReadyLatch := false } })

/-- `frameBuffer()`: the read-only view of the 144 by 160 shades (61_ppu.md R450, R480). -/
def State.frameBuffer (s : State) : FrameBuffer := s.ppu.frameBuffer

/-- `isBootComplete()` is constantly true (21_mmu_io_mbc1.md R142). -/
def State.isBootComplete (_s : State) : Bool := true

/-- The size of the IOBacking array, 0xFF00 to 0xFF7F. -/
def ioSize : Nat := 0x80

/-- `reset()`: every subsystem at its boot defaults, the cartridge and the parameters unchanged, the RAM arrays holding
whatever `ram` says (70_reset_and_hazards.md R540, 10_state.md R33). The model's own fields go on. -/
def State.hostReset (s : State) (ram : RamImage) : State :=
  { State.reset with
    rom := s.rom
    params := s.params
    extRam := Memory.ofCells s.params.ramBytes ram.extRam
    vram := Ram.ofCells 0x2000 ram.vram
    wram := Ram.ofCells 0x2000 ram.wram
    oam := Ram.ofCells 160 ram.oam
    hram := Ram.ofCells 127 ram.hram
    io := Ram.ofCells ioSize ram.io
    serial := { State.reset.serial with sent := s.serial.sent }
    draws := s.draws
    inputs := s.inputs }

/-- One action of the host. -/
def State.act (s : State) : HostAction → State
  | .press id => s.pressButton id
  | .release id => s.releaseButton id
  | .requestInterrupt source => State.requestInterrupt s source
  | .pollFrameReady => s.frameReady.2
  | .reset ram => s.hostReset ram

/-- The host's turn before a system step: the actions the input list gives for it, in order (00_scope.md R16). -/
def State.hostTurn (s : State) : State :=
  match s.inputs with
  | [] => s
  | actions :: rest => actions.foldl State.act { s with inputs := rest }

end Sys2Proof.Machine
end

