-- ==== Sys2Proof/Machine/Cartridge.lean ====
section
/-! DEFINITION. Construction from a cartridge image: the geometry its header names (21_mmu_io_mbc1.md R118) and the state
`new(rom)` makes (70_reset_and_hazards.md R540). Load errors are outside the hardware (R150): an image that would raise one
gives no state. -/

namespace Sys2Proof.Machine

/-- Cartridge type codes: HAS_MBC1, and no value for a type that is not accepted (R118). -/
def mbcOfType (code : Byte) : Option Bool :=
  if code = 0x00#8 then some false
  else if code = 0x01#8 ∨ code = 0x02#8 ∨ code = 0x03#8 then some true
  else none

/-- ROM size code `k` in 0 to 6 means `2 << k` banks (R118). -/
def romBanksOfCode (code : Byte) : Option Nat := if code.toNat ≤ 6 then some (2 <<< code.toNat) else none

/-- RAM size codes 0 to 3 (R118). -/
def ramBytesOfCode (code : Byte) : Option Nat :=
  if code = 0x00#8 then some 0
  else if code = 0x01#8 then some 2048
  else if code = 0x02#8 then some 8192
  else if code = 0x03#8 then some 32768
  else none

/-- The parameters of an instance whose image has these header bytes, with the given BLOCKING and CYCLES. -/
def paramsOfHeader (mbcType romCode ramCode : Byte) (blocking : Bool) (cycles : List CycleEntry) : Option Params := do
  let hasMbc1 ← mbcOfType mbcType
  let romBanks ← romBanksOfCode romCode
  let ramBytes ← ramBytesOfCode ramCode
  some { romBanks := romBanks, ramBytes := ramBytes, hasMbc1 := hasMbc1, blocking := blocking, cycles := cycles }

/-- `new(rom)`: the header at 0x0147 to 0x0149 fixes the geometry, external RAM is zeroed, the other RAM arrays hold whatever
`ram` says, everything else is at its reset value (R118, R540). No state for an image a loader refuses (R150). An image LONGER than its
header says gives no state either: R118 makes only a shorter one a load error, and what the loader's "size mismatch" compares is
not in the source (91_not_in_source.md N15); DESIGN CHOICE, log entry 22, by the premise on the length in R150. -/
def State.construct (image : List Byte) (blocking : Bool) (cycles : List CycleEntry) (ram : RamImage) : Option State := do
  let p ← paramsOfHeader (image.getD 0x147 0x00#8) (image.getD 0x148 0x00#8) (image.getD 0x149 0x00#8) blocking cycles
  if image.length = p.romBanks * 0x4000 then
    some (State.hostReset { State.reset with rom := Memory.ofBytes 0 image, params := p } { ram with extRam := [] })
  else none

end Sys2Proof.Machine
end

