-- ==== Sys2Proof/WellFormed.lean ====
section
/-! DEFINITION. Which terms of `Instr` are instructions of the machine. Every operand value of every constructor is legal (the
encodings have no reserved field, 30_encoding.md R172); the one check is that the prefix row is no instruction by itself. -/

namespace Sys2Proof

/-- The prefix row is not an instruction of its own: it says that the next byte is an opcode of the `cb` table (R160, R366;
log entry 11). Every other row is one, whatever its operand, so the second arm covers them all. -/
def Instr.wellFormed : Instr → Bool
  | .prefix_cb _ => false
  | _ => true

end Sys2Proof
end

