-- ==== Sys2Proof/Decode.lean ====
section
/-! DEFINITION. The decoder (30_encoding.md R160 to R173): the base table of R169 and the `cb` table of R170 as they stand
there, a decoder of byte lists, total, and the encoder written from the encoding lines of opcode_table.json. -/

namespace Sys2Proof

/-- A cell of the base table: an instruction and the operand bytes that follow its opcode byte (R161). -/
inductive Slot where
  /-- Format OP: no operand byte. -/
  | op (i : Instr)
  /-- Formats OP_N8, OP_E8 and OP_PAD: one operand byte. -/
  | byte (f : Byte → Instr)
  /-- Format OP_N16: two operand bytes, the low one first. -/
  | word (f : Word → Instr)
  /-- Format PREFIX: the next byte is an opcode of the `cb` table. -/
  | cbTable

/-- Row 0x of the base table (R169). -/
def baseRow0 : List Slot :=
  [.op .nop, .word .ld_bc_n16, .op .ld_atBC_a, .op .inc_bc, .op .inc_b, .op .dec_b, .byte .ld_b_n8, .op .rlca,
   .word .ld_atN16_sp, .op .add_hl_bc, .op .ld_a_atBC, .op .dec_bc, .op .inc_c, .op .dec_c, .byte .ld_c_n8, .op .rrca]

/-- Row 1x of the base table (R169). -/
def baseRow1 : List Slot :=
  [.byte .stop, .word .ld_de_n16, .op .ld_atDE_a, .op .inc_de, .op .inc_d, .op .dec_d, .byte .ld_d_n8, .op .rla,
   .byte .jr_e8, .op .add_hl_de, .op .ld_a_atDE, .op .dec_de, .op .inc_e, .op .dec_e, .byte .ld_e_n8, .op .rra]

/-- Row 2x of the base table (R169). -/
def baseRow2 : List Slot :=
  [.byte .jr_nz_e8, .word .ld_hl_n16, .op .ld_atHLI_a, .op .inc_hl, .op .inc_h, .op .dec_h, .byte .ld_h_n8, .op .daa,
   .byte .jr_z_e8, .op .add_hl_hl, .op .ld_a_atHLI, .op .dec_hl, .op .inc_l, .op .dec_l, .byte .ld_l_n8, .op .cpl]

/-- Row 3x of the base table (R169). -/
def baseRow3 : List Slot :=
  [.byte .jr_nc_e8, .word .ld_sp_n16, .op .ld_atHLD_a, .op .inc_sp, .op .inc_atHL, .op .dec_atHL, .byte .ld_atHL_n8,
   .op .scf, .byte .jr_c_e8, .op .add_hl_sp, .op .ld_a_atHLD, .op .dec_sp, .op .inc_a, .op .dec_a, .byte .ld_a_n8,
   .op .ccf]

/-- Row 4x of the base table (R169). -/
def baseRow4 : List Slot :=
  [.op .ld_b_b, .op .ld_b_c, .op .ld_b_d, .op .ld_b_e, .op .ld_b_h, .op .ld_b_l, .op .ld_b_atHL, .op .ld_b_a,
   .op .ld_c_b, .op .ld_c_c, .op .ld_c_d, .op .ld_c_e, .op .ld_c_h, .op .ld_c_l, .op .ld_c_atHL, .op .ld_c_a]

/-- Row 5x of the base table (R169). -/
def baseRow5 : List Slot :=
  [.op .ld_d_b, .op .ld_d_c, .op .ld_d_d, .op .ld_d_e, .op .ld_d_h, .op .ld_d_l, .op .ld_d_atHL, .op .ld_d_a,
   .op .ld_e_b, .op .ld_e_c, .op .ld_e_d, .op .ld_e_e, .op .ld_e_h, .op .ld_e_l, .op .ld_e_atHL, .op .ld_e_a]

/-- Row 6x of the base table (R169). -/
def baseRow6 : List Slot :=
  [.op .ld_h_b, .op .ld_h_c, .op .ld_h_d, .op .ld_h_e, .op .ld_h_h, .op .ld_h_l, .op .ld_h_atHL, .op .ld_h_a,
   .op .ld_l_b, .op .ld_l_c, .op .ld_l_d, .op .ld_l_e, .op .ld_l_h, .op .ld_l_l, .op .ld_l_atHL, .op .ld_l_a]

/-- Row 7x of the base table (R169). -/
def baseRow7 : List Slot :=
  [.op .ld_atHL_b, .op .ld_atHL_c, .op .ld_atHL_d, .op .ld_atHL_e, .op .ld_atHL_h, .op .ld_atHL_l, .op .halt,
   .op .ld_atHL_a, .op .ld_a_b, .op .ld_a_c, .op .ld_a_d, .op .ld_a_e, .op .ld_a_h, .op .ld_a_l, .op .ld_a_atHL,
   .op .ld_a_a]

/-- Row 8x of the base table (R169). -/
def baseRow8 : List Slot :=
  [.op .add_a_b, .op .add_a_c, .op .add_a_d, .op .add_a_e, .op .add_a_h, .op .add_a_l, .op .add_a_atHL, .op .add_a_a,
   .op .adc_a_b, .op .adc_a_c, .op .adc_a_d, .op .adc_a_e, .op .adc_a_h, .op .adc_a_l, .op .adc_a_atHL, .op .adc_a_a]

/-- Row 9x of the base table (R169). -/
def baseRow9 : List Slot :=
  [.op .sub_b, .op .sub_c, .op .sub_d, .op .sub_e, .op .sub_h, .op .sub_l, .op .sub_atHL, .op .sub_a, .op .sbc_a_b,
   .op .sbc_a_c, .op .sbc_a_d, .op .sbc_a_e, .op .sbc_a_h, .op .sbc_a_l, .op .sbc_a_atHL, .op .sbc_a_a]

/-- Row Ax of the base table (R169). -/
def baseRowA : List Slot :=
  [.op .and_b, .op .and_c, .op .and_d, .op .and_e, .op .and_h, .op .and_l, .op .and_atHL, .op .and_a, .op .xor_b,
   .op .xor_c, .op .xor_d, .op .xor_e, .op .xor_h, .op .xor_l, .op .xor_atHL, .op .xor_a]

/-- Row Bx of the base table (R169). -/
def baseRowB : List Slot :=
  [.op .or_b, .op .or_c, .op .or_d, .op .or_e, .op .or_h, .op .or_l, .op .or_atHL, .op .or_a, .op .cp_b, .op .cp_c,
   .op .cp_d, .op .cp_e, .op .cp_h, .op .cp_l, .op .cp_atHL, .op .cp_a]

/-- Row Cx of the base table (R169). -/
def baseRowC : List Slot :=
  [.op .ret_nz, .op .pop_bc, .word .jp_nz_n16, .word .jp_n16, .word .call_nz_n16, .op .push_bc, .byte .add_a_n8,
   .op .rst_00h, .op .ret_z, .op .ret, .word .jp_z_n16, .cbTable, .word .call_z_n16, .word .call_n16,
   .byte .adc_a_n8, .op .rst_08h]

/-- Row Dx of the base table (R169). -/
def baseRowD : List Slot :=
  [.op .ret_nc, .op .pop_de, .word .jp_nc_n16, .op .illegal_d3, .word .call_nc_n16, .op .push_de, .byte .sub_n8,
   .op .rst_10h, .op .ret_c, .op .reti, .word .jp_c_n16, .op .illegal_db, .word .call_c_n16, .op .illegal_dd,
   .byte .sbc_a_n8, .op .rst_18h]

/-- Row Ex of the base table (R169). -/
def baseRowE : List Slot :=
  [.byte .ldh_atN8_a, .op .pop_hl, .op .ldh_atC_a, .op .illegal_e3, .op .illegal_e4, .op .push_hl, .byte .and_n8,
   .op .rst_20h, .byte .add_sp_e8, .op .jp_hl, .word .ld_atN16_a, .op .illegal_eb, .op .illegal_ec, .op .illegal_ed,
   .byte .xor_n8, .op .rst_28h]

/-- Row Fx of the base table (R169). -/
def baseRowF : List Slot :=
  [.byte .ldh_a_atN8, .op .pop_af, .op .ldh_a_atC, .op .di, .op .illegal_f4, .op .push_af, .byte .or_n8,
   .op .rst_30h, .byte .ld_hl_spE8, .op .ld_sp_hl, .word .ld_a_atN16, .op .ei, .op .illegal_fc, .op .illegal_fd,
   .byte .cp_n8, .op .rst_38h]

/-- The base table (R169): 16 rows, by the high nibble of the opcode byte, of 16 cells, by its low nibble. -/
def baseTable : List (List Slot) :=
  [baseRow0, baseRow1, baseRow2, baseRow3, baseRow4, baseRow5, baseRow6, baseRow7,
   baseRow8, baseRow9, baseRowA, baseRowB, baseRowC, baseRowD, baseRowE, baseRowF]

/-- Row 0x of the `cb` table (R170). -/
def cbRow0 : List Instr :=
  [.rlc_b, .rlc_c, .rlc_d, .rlc_e, .rlc_h, .rlc_l, .rlc_atHL, .rlc_a, .rrc_b, .rrc_c, .rrc_d, .rrc_e, .rrc_h, .rrc_l,
   .rrc_atHL, .rrc_a]

/-- Row 1x of the `cb` table (R170). -/
def cbRow1 : List Instr :=
  [.rl_b, .rl_c, .rl_d, .rl_e, .rl_h, .rl_l, .rl_atHL, .rl_a, .rr_b, .rr_c, .rr_d, .rr_e, .rr_h, .rr_l, .rr_atHL,
   .rr_a]

/-- Row 2x of the `cb` table (R170). -/
def cbRow2 : List Instr :=
  [.sla_b, .sla_c, .sla_d, .sla_e, .sla_h, .sla_l, .sla_atHL, .sla_a, .sra_b, .sra_c, .sra_d, .sra_e, .sra_h, .sra_l,
   .sra_atHL, .sra_a]

/-- Row 3x of the `cb` table (R170). -/
def cbRow3 : List Instr :=
  [.swap_b, .swap_c, .swap_d, .swap_e, .swap_h, .swap_l, .swap_atHL, .swap_a, .srl_b, .srl_c, .srl_d, .srl_e, .srl_h,
   .srl_l, .srl_atHL, .srl_a]

/-- Row 4x of the `cb` table (R170). -/
def cbRow4 : List Instr :=
  [.bit_0_b, .bit_0_c, .bit_0_d, .bit_0_e, .bit_0_h, .bit_0_l, .bit_0_atHL, .bit_0_a, .bit_1_b, .bit_1_c, .bit_1_d,
   .bit_1_e, .bit_1_h, .bit_1_l, .bit_1_atHL, .bit_1_a]

/-- Row 5x of the `cb` table (R170). -/
def cbRow5 : List Instr :=
  [.bit_2_b, .bit_2_c, .bit_2_d, .bit_2_e, .bit_2_h, .bit_2_l, .bit_2_atHL, .bit_2_a, .bit_3_b, .bit_3_c, .bit_3_d,
   .bit_3_e, .bit_3_h, .bit_3_l, .bit_3_atHL, .bit_3_a]

/-- Row 6x of the `cb` table (R170). -/
def cbRow6 : List Instr :=
  [.bit_4_b, .bit_4_c, .bit_4_d, .bit_4_e, .bit_4_h, .bit_4_l, .bit_4_atHL, .bit_4_a, .bit_5_b, .bit_5_c, .bit_5_d,
   .bit_5_e, .bit_5_h, .bit_5_l, .bit_5_atHL, .bit_5_a]

/-- Row 7x of the `cb` table (R170). -/
def cbRow7 : List Instr :=
  [.bit_6_b, .bit_6_c, .bit_6_d, .bit_6_e, .bit_6_h, .bit_6_l, .bit_6_atHL, .bit_6_a, .bit_7_b, .bit_7_c, .bit_7_d,
   .bit_7_e, .bit_7_h, .bit_7_l, .bit_7_atHL, .bit_7_a]

/-- Row 8x of the `cb` table (R170). -/
def cbRow8 : List Instr :=
  [.res_0_b, .res_0_c, .res_0_d, .res_0_e, .res_0_h, .res_0_l, .res_0_atHL, .res_0_a, .res_1_b, .res_1_c, .res_1_d,
   .res_1_e, .res_1_h, .res_1_l, .res_1_atHL, .res_1_a]

/-- Row 9x of the `cb` table (R170). -/
def cbRow9 : List Instr :=
  [.res_2_b, .res_2_c, .res_2_d, .res_2_e, .res_2_h, .res_2_l, .res_2_atHL, .res_2_a, .res_3_b, .res_3_c, .res_3_d,
   .res_3_e, .res_3_h, .res_3_l, .res_3_atHL, .res_3_a]

/-- Row Ax of the `cb` table (R170). -/
def cbRowA : List Instr :=
  [.res_4_b, .res_4_c, .res_4_d, .res_4_e, .res_4_h, .res_4_l, .res_4_atHL, .res_4_a, .res_5_b, .res_5_c, .res_5_d,
   .res_5_e, .res_5_h, .res_5_l, .res_5_atHL, .res_5_a]

/-- Row Bx of the `cb` table (R170). -/
def cbRowB : List Instr :=
  [.res_6_b, .res_6_c, .res_6_d, .res_6_e, .res_6_h, .res_6_l, .res_6_atHL, .res_6_a, .res_7_b, .res_7_c, .res_7_d,
   .res_7_e, .res_7_h, .res_7_l, .res_7_atHL, .res_7_a]

/-- Row Cx of the `cb` table (R170). -/
def cbRowC : List Instr :=
  [.set_0_b, .set_0_c, .set_0_d, .set_0_e, .set_0_h, .set_0_l, .set_0_atHL, .set_0_a, .set_1_b, .set_1_c, .set_1_d,
   .set_1_e, .set_1_h, .set_1_l, .set_1_atHL, .set_1_a]

/-- Row Dx of the `cb` table (R170). -/
def cbRowD : List Instr :=
  [.set_2_b, .set_2_c, .set_2_d, .set_2_e, .set_2_h, .set_2_l, .set_2_atHL, .set_2_a, .set_3_b, .set_3_c, .set_3_d,
   .set_3_e, .set_3_h, .set_3_l, .set_3_atHL, .set_3_a]

/-- Row Ex of the `cb` table (R170). -/
def cbRowE : List Instr :=
  [.set_4_b, .set_4_c, .set_4_d, .set_4_e, .set_4_h, .set_4_l, .set_4_atHL, .set_4_a, .set_5_b, .set_5_c, .set_5_d,
   .set_5_e, .set_5_h, .set_5_l, .set_5_atHL, .set_5_a]

/-- Row Fx of the `cb` table (R170). -/
def cbRowF : List Instr :=
  [.set_6_b, .set_6_c, .set_6_d, .set_6_e, .set_6_h, .set_6_l, .set_6_atHL, .set_6_a, .set_7_b, .set_7_c, .set_7_d,
   .set_7_e, .set_7_h, .set_7_l, .set_7_atHL, .set_7_a]

/-- The `cb` table (R170): 16 rows of 16 cells, as the base table. -/
def cbTable : List (List Instr) :=
  [cbRow0, cbRow1, cbRow2, cbRow3, cbRow4, cbRow5, cbRow6, cbRow7,
   cbRow8, cbRow9, cbRowA, cbRowB, cbRowC, cbRowD, cbRowE, cbRowF]

/-- The cell of an opcode byte; the table has a cell for every byte, so the default is never taken. -/
def baseSlot (op : Byte) : Slot := (baseTable.getD (op.toNat / 16) []).getD (op.toNat % 16) (.op .nop)

/-- The instruction of a byte after the prefix; the table has a cell for every byte, so the default is never taken. -/
def decodeCb (op2 : Byte) : Instr := (cbTable.getD (op2.toNat / 16) []).getD (op2.toNat % 16) .nop

/-- Why a list of bytes does not begin with an instruction: it ends before the instruction does. No byte is refused: the
eleven undefined bytes decode to their ILLEGAL rows (R172). -/
inductive DecodeError where
  /-- The list is empty. -/
  | noOpcode
  /-- The list ends inside an instruction. -/
  | truncated
  deriving DecidableEq, Repr

/-- The instruction at the head of a list of bytes, with the bytes after it (R160, R173). -/
def decode : List Byte → Except DecodeError (Instr × List Byte)
  | [] => .error .noOpcode
  | op :: rest =>
    match baseSlot op, rest with
    | .op i, rest => .ok (i, rest)
    | .byte f, n :: rest => .ok (f n, rest)
    | .word f, lo :: hi :: rest => .ok (f (Machine.wordOf hi lo), rest)
    | .cbTable, op2 :: rest => .ok (decodeCb op2, rest)
    | _, _ => .error .truncated

/-- The instruction in three bytes, the longest instruction's length; bytes after its own are ignored. -/
def decodeBytes (b0 b1 b2 : Byte) : Instr :=
  match baseSlot b0 with
  | .op i => i
  | .byte f => f b1
  | .word f => f (Machine.wordOf b2 b1)
  | .cbTable => decodeCb b1

/-- The three bytes of an instruction word numbered as opcode_table.json numbers them: bits 7:0 are the first byte and a
later byte's bits count on from it; but the table numbers a `cb` row as `{byte 0, byte 1}`, 0xCB in the high half (R176). DESIGN
CHOICE, log entry 10: a 16-bit word whose upper byte is 0xCB is always read as a `cb` row, so the word of a two-byte base row with
operand 0xCB is too (0xCB3E, LD A,0xCB counted low byte first, is read as SRL (HL)). Bits from `nbits` on are 0. -/
def tableWordBytes (nbits w : Nat) : Byte × Byte × Byte :=
  let v := w % 2 ^ nbits
  let b0 := BitVec.ofNat 8 v
  let b1 := BitVec.ofNat 8 (v / 256)
  let b2 := BitVec.ofNat 8 (v / 65536)
  if nbits = 16 ∧ b1 = 0xCB#8 then (b1, b0, b2) else (b0, b1, b2)

/-- The instruction the decoder reads from a table word, operand bytes the word does not give being 0. -/
def decodeTableWord (nbits w : Nat) : Option Instr :=
  let bytes := tableWordBytes nbits w
  match decode [bytes.1, bytes.2.1, bytes.2.2] with
  | .ok (i, _) => some i
  | .error _ => none

/-! ### The encoder -/

/-- The low byte of an OP_N16 operand, at the lower address (R161, R166). -/
def operandLo (nn : Word) : Byte := Machine.loByte nn
/-- The high byte of an OP_N16 operand (R161, R166). -/
def operandHi (nn : Word) : Byte := Machine.hiByte nn

/-- The bytes of an instruction (opcode_table.json, `encoding`). -/
def encode : Instr → List Byte
  | .nop => [0b00000000#8]
  | .ld_bc_n16 nn => [0b00000001#8, operandLo nn, operandHi nn]
  | .ld_atBC_a => [0b00000010#8]
  | .inc_bc => [0b00000011#8]
  | .inc_b => [0b00000100#8]
  | .dec_b => [0b00000101#8]
  | .ld_b_n8 n => [0b00000110#8, n]
  | .rlca => [0b00000111#8]
  | .ld_atN16_sp nn => [0b00001000#8, operandLo nn, operandHi nn]
  | .add_hl_bc => [0b00001001#8]
  | .ld_a_atBC => [0b00001010#8]
  | .dec_bc => [0b00001011#8]
  | .inc_c => [0b00001100#8]
  | .dec_c => [0b00001101#8]
  | .ld_c_n8 n => [0b00001110#8, n]
  | .rrca => [0b00001111#8]
  | .stop pad => [0b00010000#8, pad]
  | .ld_de_n16 nn => [0b00010001#8, operandLo nn, operandHi nn]
  | .ld_atDE_a => [0b00010010#8]
  | .inc_de => [0b00010011#8]
  | .inc_d => [0b00010100#8]
  | .dec_d => [0b00010101#8]
  | .ld_d_n8 n => [0b00010110#8, n]
  | .rla => [0b00010111#8]
  | .jr_e8 e => [0b00011000#8, e]
  | .add_hl_de => [0b00011001#8]
  | .ld_a_atDE => [0b00011010#8]
  | .dec_de => [0b00011011#8]
  | .inc_e => [0b00011100#8]
  | .dec_e => [0b00011101#8]
  | .ld_e_n8 n => [0b00011110#8, n]
  | .rra => [0b00011111#8]
  | .jr_nz_e8 e => [0b00100000#8, e]
  | .ld_hl_n16 nn => [0b00100001#8, operandLo nn, operandHi nn]
  | .ld_atHLI_a => [0b00100010#8]
  | .inc_hl => [0b00100011#8]
  | .inc_h => [0b00100100#8]
  | .dec_h => [0b00100101#8]
  | .ld_h_n8 n => [0b00100110#8, n]
  | .daa => [0b00100111#8]
  | .jr_z_e8 e => [0b00101000#8, e]
  | .add_hl_hl => [0b00101001#8]
  | .ld_a_atHLI => [0b00101010#8]
  | .dec_hl => [0b00101011#8]
  | .inc_l => [0b00101100#8]
  | .dec_l => [0b00101101#8]
  | .ld_l_n8 n => [0b00101110#8, n]
  | .cpl => [0b00101111#8]
  | .jr_nc_e8 e => [0b00110000#8, e]
  | .ld_sp_n16 nn => [0b00110001#8, operandLo nn, operandHi nn]
  | .ld_atHLD_a => [0b00110010#8]
  | .inc_sp => [0b00110011#8]
  | .inc_atHL => [0b00110100#8]
  | .dec_atHL => [0b00110101#8]
  | .ld_atHL_n8 n => [0b00110110#8, n]
  | .scf => [0b00110111#8]
  | .jr_c_e8 e => [0b00111000#8, e]
  | .add_hl_sp => [0b00111001#8]
  | .ld_a_atHLD => [0b00111010#8]
  | .dec_sp => [0b00111011#8]
  | .inc_a => [0b00111100#8]
  | .dec_a => [0b00111101#8]
  | .ld_a_n8 n => [0b00111110#8, n]
  | .ccf => [0b00111111#8]
  | .ld_b_b => [0b01000000#8]
  | .ld_b_c => [0b01000001#8]
  | .ld_b_d => [0b01000010#8]
  | .ld_b_e => [0b01000011#8]
  | .ld_b_h => [0b01000100#8]
  | .ld_b_l => [0b01000101#8]
  | .ld_b_atHL => [0b01000110#8]
  | .ld_b_a => [0b01000111#8]
  | .ld_c_b => [0b01001000#8]
  | .ld_c_c => [0b01001001#8]
  | .ld_c_d => [0b01001010#8]
  | .ld_c_e => [0b01001011#8]
  | .ld_c_h => [0b01001100#8]
  | .ld_c_l => [0b01001101#8]
  | .ld_c_atHL => [0b01001110#8]
  | .ld_c_a => [0b01001111#8]
  | .ld_d_b => [0b01010000#8]
  | .ld_d_c => [0b01010001#8]
  | .ld_d_d => [0b01010010#8]
  | .ld_d_e => [0b01010011#8]
  | .ld_d_h => [0b01010100#8]
  | .ld_d_l => [0b01010101#8]
  | .ld_d_atHL => [0b01010110#8]
  | .ld_d_a => [0b01010111#8]
  | .ld_e_b => [0b01011000#8]
  | .ld_e_c => [0b01011001#8]
  | .ld_e_d => [0b01011010#8]
  | .ld_e_e => [0b01011011#8]
  | .ld_e_h => [0b01011100#8]
  | .ld_e_l => [0b01011101#8]
  | .ld_e_atHL => [0b01011110#8]
  | .ld_e_a => [0b01011111#8]
  | .ld_h_b => [0b01100000#8]
  | .ld_h_c => [0b01100001#8]
  | .ld_h_d => [0b01100010#8]
  | .ld_h_e => [0b01100011#8]
  | .ld_h_h => [0b01100100#8]
  | .ld_h_l => [0b01100101#8]
  | .ld_h_atHL => [0b01100110#8]
  | .ld_h_a => [0b01100111#8]
  | .ld_l_b => [0b01101000#8]
  | .ld_l_c => [0b01101001#8]
  | .ld_l_d => [0b01101010#8]
  | .ld_l_e => [0b01101011#8]
  | .ld_l_h => [0b01101100#8]
  | .ld_l_l => [0b01101101#8]
  | .ld_l_atHL => [0b01101110#8]
  | .ld_l_a => [0b01101111#8]
  | .ld_atHL_b => [0b01110000#8]
  | .ld_atHL_c => [0b01110001#8]
  | .ld_atHL_d => [0b01110010#8]
  | .ld_atHL_e => [0b01110011#8]
  | .ld_atHL_h => [0b01110100#8]
  | .ld_atHL_l => [0b01110101#8]
  | .halt => [0b01110110#8]
  | .ld_atHL_a => [0b01110111#8]
  | .ld_a_b => [0b01111000#8]
  | .ld_a_c => [0b01111001#8]
  | .ld_a_d => [0b01111010#8]
  | .ld_a_e => [0b01111011#8]
  | .ld_a_h => [0b01111100#8]
  | .ld_a_l => [0b01111101#8]
  | .ld_a_atHL => [0b01111110#8]
  | .ld_a_a => [0b01111111#8]
  | .add_a_b => [0b10000000#8]
  | .add_a_c => [0b10000001#8]
  | .add_a_d => [0b10000010#8]
  | .add_a_e => [0b10000011#8]
  | .add_a_h => [0b10000100#8]
  | .add_a_l => [0b10000101#8]
  | .add_a_atHL => [0b10000110#8]
  | .add_a_a => [0b10000111#8]
  | .adc_a_b => [0b10001000#8]
  | .adc_a_c => [0b10001001#8]
  | .adc_a_d => [0b10001010#8]
  | .adc_a_e => [0b10001011#8]
  | .adc_a_h => [0b10001100#8]
  | .adc_a_l => [0b10001101#8]
  | .adc_a_atHL => [0b10001110#8]
  | .adc_a_a => [0b10001111#8]
  | .sub_b => [0b10010000#8]
  | .sub_c => [0b10010001#8]
  | .sub_d => [0b10010010#8]
  | .sub_e => [0b10010011#8]
  | .sub_h => [0b10010100#8]
  | .sub_l => [0b10010101#8]
  | .sub_atHL => [0b10010110#8]
  | .sub_a => [0b10010111#8]
  | .sbc_a_b => [0b10011000#8]
  | .sbc_a_c => [0b10011001#8]
  | .sbc_a_d => [0b10011010#8]
  | .sbc_a_e => [0b10011011#8]
  | .sbc_a_h => [0b10011100#8]
  | .sbc_a_l => [0b10011101#8]
  | .sbc_a_atHL => [0b10011110#8]
  | .sbc_a_a => [0b10011111#8]
  | .and_b => [0b10100000#8]
  | .and_c => [0b10100001#8]
  | .and_d => [0b10100010#8]
  | .and_e => [0b10100011#8]
  | .and_h => [0b10100100#8]
  | .and_l => [0b10100101#8]
  | .and_atHL => [0b10100110#8]
  | .and_a => [0b10100111#8]
  | .xor_b => [0b10101000#8]
  | .xor_c => [0b10101001#8]
  | .xor_d => [0b10101010#8]
  | .xor_e => [0b10101011#8]
  | .xor_h => [0b10101100#8]
  | .xor_l => [0b10101101#8]
  | .xor_atHL => [0b10101110#8]
  | .xor_a => [0b10101111#8]
  | .or_b => [0b10110000#8]
  | .or_c => [0b10110001#8]
  | .or_d => [0b10110010#8]
  | .or_e => [0b10110011#8]
  | .or_h => [0b10110100#8]
  | .or_l => [0b10110101#8]
  | .or_atHL => [0b10110110#8]
  | .or_a => [0b10110111#8]
  | .cp_b => [0b10111000#8]
  | .cp_c => [0b10111001#8]
  | .cp_d => [0b10111010#8]
  | .cp_e => [0b10111011#8]
  | .cp_h => [0b10111100#8]
  | .cp_l => [0b10111101#8]
  | .cp_atHL => [0b10111110#8]
  | .cp_a => [0b10111111#8]
  | .ret_nz => [0b11000000#8]
  | .pop_bc => [0b11000001#8]
  | .jp_nz_n16 nn => [0b11000010#8, operandLo nn, operandHi nn]
  | .jp_n16 nn => [0b11000011#8, operandLo nn, operandHi nn]
  | .call_nz_n16 nn => [0b11000100#8, operandLo nn, operandHi nn]
  | .push_bc => [0b11000101#8]
  | .add_a_n8 n => [0b11000110#8, n]
  | .rst_00h => [0b11000111#8]
  | .ret_z => [0b11001000#8]
  | .ret => [0b11001001#8]
  | .jp_z_n16 nn => [0b11001010#8, operandLo nn, operandHi nn]
  | .prefix_cb op2 => [0b11001011#8, op2]
  | .call_z_n16 nn => [0b11001100#8, operandLo nn, operandHi nn]
  | .call_n16 nn => [0b11001101#8, operandLo nn, operandHi nn]
  | .adc_a_n8 n => [0b11001110#8, n]
  | .rst_08h => [0b11001111#8]
  | .ret_nc => [0b11010000#8]
  | .pop_de => [0b11010001#8]
  | .jp_nc_n16 nn => [0b11010010#8, operandLo nn, operandHi nn]
  | .illegal_d3 => [0b11010011#8]
  | .call_nc_n16 nn => [0b11010100#8, operandLo nn, operandHi nn]
  | .push_de => [0b11010101#8]
  | .sub_n8 n => [0b11010110#8, n]
  | .rst_10h => [0b11010111#8]
  | .ret_c => [0b11011000#8]
  | .reti => [0b11011001#8]
  | .jp_c_n16 nn => [0b11011010#8, operandLo nn, operandHi nn]
  | .illegal_db => [0b11011011#8]
  | .call_c_n16 nn => [0b11011100#8, operandLo nn, operandHi nn]
  | .illegal_dd => [0b11011101#8]
  | .sbc_a_n8 n => [0b11011110#8, n]
  | .rst_18h => [0b11011111#8]
  | .ldh_atN8_a n => [0b11100000#8, n]
  | .pop_hl => [0b11100001#8]
  | .ldh_atC_a => [0b11100010#8]
  | .illegal_e3 => [0b11100011#8]
  | .illegal_e4 => [0b11100100#8]
  | .push_hl => [0b11100101#8]
  | .and_n8 n => [0b11100110#8, n]
  | .rst_20h => [0b11100111#8]
  | .add_sp_e8 e => [0b11101000#8, e]
  | .jp_hl => [0b11101001#8]
  | .ld_atN16_a nn => [0b11101010#8, operandLo nn, operandHi nn]
  | .illegal_eb => [0b11101011#8]
  | .illegal_ec => [0b11101100#8]
  | .illegal_ed => [0b11101101#8]
  | .xor_n8 n => [0b11101110#8, n]
  | .rst_28h => [0b11101111#8]
  | .ldh_a_atN8 n => [0b11110000#8, n]
  | .pop_af => [0b11110001#8]
  | .ldh_a_atC => [0b11110010#8]
  | .di => [0b11110011#8]
  | .illegal_f4 => [0b11110100#8]
  | .push_af => [0b11110101#8]
  | .or_n8 n => [0b11110110#8, n]
  | .rst_30h => [0b11110111#8]
  | .ld_hl_spE8 e => [0b11111000#8, e]
  | .ld_sp_hl => [0b11111001#8]
  | .ld_a_atN16 nn => [0b11111010#8, operandLo nn, operandHi nn]
  | .ei => [0b11111011#8]
  | .illegal_fc => [0b11111100#8]
  | .illegal_fd => [0b11111101#8]
  | .cp_n8 n => [0b11111110#8, n]
  | .rst_38h => [0b11111111#8]
  | .rlc_b => [0b11001011#8, 0b00000000#8]
  | .rlc_c => [0b11001011#8, 0b00000001#8]
  | .rlc_d => [0b11001011#8, 0b00000010#8]
  | .rlc_e => [0b11001011#8, 0b00000011#8]
  | .rlc_h => [0b11001011#8, 0b00000100#8]
  | .rlc_l => [0b11001011#8, 0b00000101#8]
  | .rlc_atHL => [0b11001011#8, 0b00000110#8]
  | .rlc_a => [0b11001011#8, 0b00000111#8]
  | .rrc_b => [0b11001011#8, 0b00001000#8]
  | .rrc_c => [0b11001011#8, 0b00001001#8]
  | .rrc_d => [0b11001011#8, 0b00001010#8]
  | .rrc_e => [0b11001011#8, 0b00001011#8]
  | .rrc_h => [0b11001011#8, 0b00001100#8]
  | .rrc_l => [0b11001011#8, 0b00001101#8]
  | .rrc_atHL => [0b11001011#8, 0b00001110#8]
  | .rrc_a => [0b11001011#8, 0b00001111#8]
  | .rl_b => [0b11001011#8, 0b00010000#8]
  | .rl_c => [0b11001011#8, 0b00010001#8]
  | .rl_d => [0b11001011#8, 0b00010010#8]
  | .rl_e => [0b11001011#8, 0b00010011#8]
  | .rl_h => [0b11001011#8, 0b00010100#8]
  | .rl_l => [0b11001011#8, 0b00010101#8]
  | .rl_atHL => [0b11001011#8, 0b00010110#8]
  | .rl_a => [0b11001011#8, 0b00010111#8]
  | .rr_b => [0b11001011#8, 0b00011000#8]
  | .rr_c => [0b11001011#8, 0b00011001#8]
  | .rr_d => [0b11001011#8, 0b00011010#8]
  | .rr_e => [0b11001011#8, 0b00011011#8]
  | .rr_h => [0b11001011#8, 0b00011100#8]
  | .rr_l => [0b11001011#8, 0b00011101#8]
  | .rr_atHL => [0b11001011#8, 0b00011110#8]
  | .rr_a => [0b11001011#8, 0b00011111#8]
  | .sla_b => [0b11001011#8, 0b00100000#8]
  | .sla_c => [0b11001011#8, 0b00100001#8]
  | .sla_d => [0b11001011#8, 0b00100010#8]
  | .sla_e => [0b11001011#8, 0b00100011#8]
  | .sla_h => [0b11001011#8, 0b00100100#8]
  | .sla_l => [0b11001011#8, 0b00100101#8]
  | .sla_atHL => [0b11001011#8, 0b00100110#8]
  | .sla_a => [0b11001011#8, 0b00100111#8]
  | .sra_b => [0b11001011#8, 0b00101000#8]
  | .sra_c => [0b11001011#8, 0b00101001#8]
  | .sra_d => [0b11001011#8, 0b00101010#8]
  | .sra_e => [0b11001011#8, 0b00101011#8]
  | .sra_h => [0b11001011#8, 0b00101100#8]
  | .sra_l => [0b11001011#8, 0b00101101#8]
  | .sra_atHL => [0b11001011#8, 0b00101110#8]
  | .sra_a => [0b11001011#8, 0b00101111#8]
  | .swap_b => [0b11001011#8, 0b00110000#8]
  | .swap_c => [0b11001011#8, 0b00110001#8]
  | .swap_d => [0b11001011#8, 0b00110010#8]
  | .swap_e => [0b11001011#8, 0b00110011#8]
  | .swap_h => [0b11001011#8, 0b00110100#8]
  | .swap_l => [0b11001011#8, 0b00110101#8]
  | .swap_atHL => [0b11001011#8, 0b00110110#8]
  | .swap_a => [0b11001011#8, 0b00110111#8]
  | .srl_b => [0b11001011#8, 0b00111000#8]
  | .srl_c => [0b11001011#8, 0b00111001#8]
  | .srl_d => [0b11001011#8, 0b00111010#8]
  | .srl_e => [0b11001011#8, 0b00111011#8]
  | .srl_h => [0b11001011#8, 0b00111100#8]
  | .srl_l => [0b11001011#8, 0b00111101#8]
  | .srl_atHL => [0b11001011#8, 0b00111110#8]
  | .srl_a => [0b11001011#8, 0b00111111#8]
  | .bit_0_b => [0b11001011#8, 0b01000000#8]
  | .bit_0_c => [0b11001011#8, 0b01000001#8]
  | .bit_0_d => [0b11001011#8, 0b01000010#8]
  | .bit_0_e => [0b11001011#8, 0b01000011#8]
  | .bit_0_h => [0b11001011#8, 0b01000100#8]
  | .bit_0_l => [0b11001011#8, 0b01000101#8]
  | .bit_0_atHL => [0b11001011#8, 0b01000110#8]
  | .bit_0_a => [0b11001011#8, 0b01000111#8]
  | .bit_1_b => [0b11001011#8, 0b01001000#8]
  | .bit_1_c => [0b11001011#8, 0b01001001#8]
  | .bit_1_d => [0b11001011#8, 0b01001010#8]
  | .bit_1_e => [0b11001011#8, 0b01001011#8]
  | .bit_1_h => [0b11001011#8, 0b01001100#8]
  | .bit_1_l => [0b11001011#8, 0b01001101#8]
  | .bit_1_atHL => [0b11001011#8, 0b01001110#8]
  | .bit_1_a => [0b11001011#8, 0b01001111#8]
  | .bit_2_b => [0b11001011#8, 0b01010000#8]
  | .bit_2_c => [0b11001011#8, 0b01010001#8]
  | .bit_2_d => [0b11001011#8, 0b01010010#8]
  | .bit_2_e => [0b11001011#8, 0b01010011#8]
  | .bit_2_h => [0b11001011#8, 0b01010100#8]
  | .bit_2_l => [0b11001011#8, 0b01010101#8]
  | .bit_2_atHL => [0b11001011#8, 0b01010110#8]
  | .bit_2_a => [0b11001011#8, 0b01010111#8]
  | .bit_3_b => [0b11001011#8, 0b01011000#8]
  | .bit_3_c => [0b11001011#8, 0b01011001#8]
  | .bit_3_d => [0b11001011#8, 0b01011010#8]
  | .bit_3_e => [0b11001011#8, 0b01011011#8]
  | .bit_3_h => [0b11001011#8, 0b01011100#8]
  | .bit_3_l => [0b11001011#8, 0b01011101#8]
  | .bit_3_atHL => [0b11001011#8, 0b01011110#8]
  | .bit_3_a => [0b11001011#8, 0b01011111#8]
  | .bit_4_b => [0b11001011#8, 0b01100000#8]
  | .bit_4_c => [0b11001011#8, 0b01100001#8]
  | .bit_4_d => [0b11001011#8, 0b01100010#8]
  | .bit_4_e => [0b11001011#8, 0b01100011#8]
  | .bit_4_h => [0b11001011#8, 0b01100100#8]
  | .bit_4_l => [0b11001011#8, 0b01100101#8]
  | .bit_4_atHL => [0b11001011#8, 0b01100110#8]
  | .bit_4_a => [0b11001011#8, 0b01100111#8]
  | .bit_5_b => [0b11001011#8, 0b01101000#8]
  | .bit_5_c => [0b11001011#8, 0b01101001#8]
  | .bit_5_d => [0b11001011#8, 0b01101010#8]
  | .bit_5_e => [0b11001011#8, 0b01101011#8]
  | .bit_5_h => [0b11001011#8, 0b01101100#8]
  | .bit_5_l => [0b11001011#8, 0b01101101#8]
  | .bit_5_atHL => [0b11001011#8, 0b01101110#8]
  | .bit_5_a => [0b11001011#8, 0b01101111#8]
  | .bit_6_b => [0b11001011#8, 0b01110000#8]
  | .bit_6_c => [0b11001011#8, 0b01110001#8]
  | .bit_6_d => [0b11001011#8, 0b01110010#8]
  | .bit_6_e => [0b11001011#8, 0b01110011#8]
  | .bit_6_h => [0b11001011#8, 0b01110100#8]
  | .bit_6_l => [0b11001011#8, 0b01110101#8]
  | .bit_6_atHL => [0b11001011#8, 0b01110110#8]
  | .bit_6_a => [0b11001011#8, 0b01110111#8]
  | .bit_7_b => [0b11001011#8, 0b01111000#8]
  | .bit_7_c => [0b11001011#8, 0b01111001#8]
  | .bit_7_d => [0b11001011#8, 0b01111010#8]
  | .bit_7_e => [0b11001011#8, 0b01111011#8]
  | .bit_7_h => [0b11001011#8, 0b01111100#8]
  | .bit_7_l => [0b11001011#8, 0b01111101#8]
  | .bit_7_atHL => [0b11001011#8, 0b01111110#8]
  | .bit_7_a => [0b11001011#8, 0b01111111#8]
  | .res_0_b => [0b11001011#8, 0b10000000#8]
  | .res_0_c => [0b11001011#8, 0b10000001#8]
  | .res_0_d => [0b11001011#8, 0b10000010#8]
  | .res_0_e => [0b11001011#8, 0b10000011#8]
  | .res_0_h => [0b11001011#8, 0b10000100#8]
  | .res_0_l => [0b11001011#8, 0b10000101#8]
  | .res_0_atHL => [0b11001011#8, 0b10000110#8]
  | .res_0_a => [0b11001011#8, 0b10000111#8]
  | .res_1_b => [0b11001011#8, 0b10001000#8]
  | .res_1_c => [0b11001011#8, 0b10001001#8]
  | .res_1_d => [0b11001011#8, 0b10001010#8]
  | .res_1_e => [0b11001011#8, 0b10001011#8]
  | .res_1_h => [0b11001011#8, 0b10001100#8]
  | .res_1_l => [0b11001011#8, 0b10001101#8]
  | .res_1_atHL => [0b11001011#8, 0b10001110#8]
  | .res_1_a => [0b11001011#8, 0b10001111#8]
  | .res_2_b => [0b11001011#8, 0b10010000#8]
  | .res_2_c => [0b11001011#8, 0b10010001#8]
  | .res_2_d => [0b11001011#8, 0b10010010#8]
  | .res_2_e => [0b11001011#8, 0b10010011#8]
  | .res_2_h => [0b11001011#8, 0b10010100#8]
  | .res_2_l => [0b11001011#8, 0b10010101#8]
  | .res_2_atHL => [0b11001011#8, 0b10010110#8]
  | .res_2_a => [0b11001011#8, 0b10010111#8]
  | .res_3_b => [0b11001011#8, 0b10011000#8]
  | .res_3_c => [0b11001011#8, 0b10011001#8]
  | .res_3_d => [0b11001011#8, 0b10011010#8]
  | .res_3_e => [0b11001011#8, 0b10011011#8]
  | .res_3_h => [0b11001011#8, 0b10011100#8]
  | .res_3_l => [0b11001011#8, 0b10011101#8]
  | .res_3_atHL => [0b11001011#8, 0b10011110#8]
  | .res_3_a => [0b11001011#8, 0b10011111#8]
  | .res_4_b => [0b11001011#8, 0b10100000#8]
  | .res_4_c => [0b11001011#8, 0b10100001#8]
  | .res_4_d => [0b11001011#8, 0b10100010#8]
  | .res_4_e => [0b11001011#8, 0b10100011#8]
  | .res_4_h => [0b11001011#8, 0b10100100#8]
  | .res_4_l => [0b11001011#8, 0b10100101#8]
  | .res_4_atHL => [0b11001011#8, 0b10100110#8]
  | .res_4_a => [0b11001011#8, 0b10100111#8]
  | .res_5_b => [0b11001011#8, 0b10101000#8]
  | .res_5_c => [0b11001011#8, 0b10101001#8]
  | .res_5_d => [0b11001011#8, 0b10101010#8]
  | .res_5_e => [0b11001011#8, 0b10101011#8]
  | .res_5_h => [0b11001011#8, 0b10101100#8]
  | .res_5_l => [0b11001011#8, 0b10101101#8]
  | .res_5_atHL => [0b11001011#8, 0b10101110#8]
  | .res_5_a => [0b11001011#8, 0b10101111#8]
  | .res_6_b => [0b11001011#8, 0b10110000#8]
  | .res_6_c => [0b11001011#8, 0b10110001#8]
  | .res_6_d => [0b11001011#8, 0b10110010#8]
  | .res_6_e => [0b11001011#8, 0b10110011#8]
  | .res_6_h => [0b11001011#8, 0b10110100#8]
  | .res_6_l => [0b11001011#8, 0b10110101#8]
  | .res_6_atHL => [0b11001011#8, 0b10110110#8]
  | .res_6_a => [0b11001011#8, 0b10110111#8]
  | .res_7_b => [0b11001011#8, 0b10111000#8]
  | .res_7_c => [0b11001011#8, 0b10111001#8]
  | .res_7_d => [0b11001011#8, 0b10111010#8]
  | .res_7_e => [0b11001011#8, 0b10111011#8]
  | .res_7_h => [0b11001011#8, 0b10111100#8]
  | .res_7_l => [0b11001011#8, 0b10111101#8]
  | .res_7_atHL => [0b11001011#8, 0b10111110#8]
  | .res_7_a => [0b11001011#8, 0b10111111#8]
  | .set_0_b => [0b11001011#8, 0b11000000#8]
  | .set_0_c => [0b11001011#8, 0b11000001#8]
  | .set_0_d => [0b11001011#8, 0b11000010#8]
  | .set_0_e => [0b11001011#8, 0b11000011#8]
  | .set_0_h => [0b11001011#8, 0b11000100#8]
  | .set_0_l => [0b11001011#8, 0b11000101#8]
  | .set_0_atHL => [0b11001011#8, 0b11000110#8]
  | .set_0_a => [0b11001011#8, 0b11000111#8]
  | .set_1_b => [0b11001011#8, 0b11001000#8]
  | .set_1_c => [0b11001011#8, 0b11001001#8]
  | .set_1_d => [0b11001011#8, 0b11001010#8]
  | .set_1_e => [0b11001011#8, 0b11001011#8]
  | .set_1_h => [0b11001011#8, 0b11001100#8]
  | .set_1_l => [0b11001011#8, 0b11001101#8]
  | .set_1_atHL => [0b11001011#8, 0b11001110#8]
  | .set_1_a => [0b11001011#8, 0b11001111#8]
  | .set_2_b => [0b11001011#8, 0b11010000#8]
  | .set_2_c => [0b11001011#8, 0b11010001#8]
  | .set_2_d => [0b11001011#8, 0b11010010#8]
  | .set_2_e => [0b11001011#8, 0b11010011#8]
  | .set_2_h => [0b11001011#8, 0b11010100#8]
  | .set_2_l => [0b11001011#8, 0b11010101#8]
  | .set_2_atHL => [0b11001011#8, 0b11010110#8]
  | .set_2_a => [0b11001011#8, 0b11010111#8]
  | .set_3_b => [0b11001011#8, 0b11011000#8]
  | .set_3_c => [0b11001011#8, 0b11011001#8]
  | .set_3_d => [0b11001011#8, 0b11011010#8]
  | .set_3_e => [0b11001011#8, 0b11011011#8]
  | .set_3_h => [0b11001011#8, 0b11011100#8]
  | .set_3_l => [0b11001011#8, 0b11011101#8]
  | .set_3_atHL => [0b11001011#8, 0b11011110#8]
  | .set_3_a => [0b11001011#8, 0b11011111#8]
  | .set_4_b => [0b11001011#8, 0b11100000#8]
  | .set_4_c => [0b11001011#8, 0b11100001#8]
  | .set_4_d => [0b11001011#8, 0b11100010#8]
  | .set_4_e => [0b11001011#8, 0b11100011#8]
  | .set_4_h => [0b11001011#8, 0b11100100#8]
  | .set_4_l => [0b11001011#8, 0b11100101#8]
  | .set_4_atHL => [0b11001011#8, 0b11100110#8]
  | .set_4_a => [0b11001011#8, 0b11100111#8]
  | .set_5_b => [0b11001011#8, 0b11101000#8]
  | .set_5_c => [0b11001011#8, 0b11101001#8]
  | .set_5_d => [0b11001011#8, 0b11101010#8]
  | .set_5_e => [0b11001011#8, 0b11101011#8]
  | .set_5_h => [0b11001011#8, 0b11101100#8]
  | .set_5_l => [0b11001011#8, 0b11101101#8]
  | .set_5_atHL => [0b11001011#8, 0b11101110#8]
  | .set_5_a => [0b11001011#8, 0b11101111#8]
  | .set_6_b => [0b11001011#8, 0b11110000#8]
  | .set_6_c => [0b11001011#8, 0b11110001#8]
  | .set_6_d => [0b11001011#8, 0b11110010#8]
  | .set_6_e => [0b11001011#8, 0b11110011#8]
  | .set_6_h => [0b11001011#8, 0b11110100#8]
  | .set_6_l => [0b11001011#8, 0b11110101#8]
  | .set_6_atHL => [0b11001011#8, 0b11110110#8]
  | .set_6_a => [0b11001011#8, 0b11110111#8]
  | .set_7_b => [0b11001011#8, 0b11111000#8]
  | .set_7_c => [0b11001011#8, 0b11111001#8]
  | .set_7_d => [0b11001011#8, 0b11111010#8]
  | .set_7_e => [0b11001011#8, 0b11111011#8]
  | .set_7_h => [0b11001011#8, 0b11111100#8]
  | .set_7_l => [0b11001011#8, 0b11111101#8]
  | .set_7_atHL => [0b11001011#8, 0b11111110#8]
  | .set_7_a => [0b11001011#8, 0b11111111#8]

/-- The number of bytes of an instruction (R161). -/
def Instr.length (i : Instr) : Nat := (encode i).length

/-! ### The operand codes (R163 to R167) -/

/-- The code of an 8-bit register (R163). -/
def Reg8.code : Reg8 → BitVec 3
  | .b => 0#3
  | .c => 1#3
  | .d => 2#3
  | .e => 3#3
  | .h => 4#3
  | .l => 5#3
  | .a => 7#3

/-- The code of a `cb` operand; (HL) is 6 (R163). -/
def Target8.code : Target8 → BitVec 3
  | .reg r => r.code
  | .atHL => 6#3

/-- The code of a pair of `rp` (R164). -/
def RegPair.code : RegPair → BitVec 2
  | .bc => 0#2
  | .de => 1#2
  | .hl => 2#2
  | .sp => 3#2

/-- The code of a pair of `rp2` (R164). -/
def StackPair.code : StackPair → BitVec 2
  | .bc => 0#2
  | .de => 1#2
  | .hl => 2#2
  | .af => 3#2

/-- The condition code (R165). -/
def Cond.code : Cond → BitVec 2
  | .nz => 0#2
  | .z => 1#2
  | .nc => 2#2
  | .c => 3#2

/-- The code of an ALU operation (R167). -/
def AluOp.code : AluOp → BitVec 3
  | .add => 0#3
  | .adc => 1#3
  | .sub => 2#3
  | .sbc => 3#3
  | .and => 4#3
  | .xor => 5#3
  | .or => 6#3
  | .cp => 7#3

/-- The code of a rotate or shift kind (R167). -/
def RotKind.code : RotKind → BitVec 3
  | .rlc => 0#3
  | .rrc => 1#3
  | .rl => 2#3
  | .rr => 3#3
  | .sla => 4#3
  | .sra => 5#3
  | .swap => 6#3
  | .srl => 7#3

/-- The rotate or shift kind of a code (R167). -/
def RotKind.ofCode : Nat → RotKind
  | 0 => .rlc
  | 1 => .rrc
  | 2 => .rl
  | 3 => .rr
  | 4 => .sla
  | 5 => .sra
  | 6 => .swap
  | _ => .srl

/-- The `cb` operand of a code (R163). -/
def Target8.ofCode : Nat → Target8
  | 0 => (.reg .b)
  | 1 => (.reg .c)
  | 2 => (.reg .d)
  | 3 => (.reg .e)
  | 4 => (.reg .h)
  | 5 => (.reg .l)
  | 6 => .atHL
  | _ => .reg .a

/-- The byte of an undefined opcode (R171). -/
def IllegalByte.byte : IllegalByte → Byte
  | .xD3 => 0xD3#8
  | .xDB => 0xDB#8
  | .xDD => 0xDD#8
  | .xE3 => 0xE3#8
  | .xE4 => 0xE4#8
  | .xEB => 0xEB#8
  | .xEC => 0xEC#8
  | .xED => 0xED#8
  | .xF4 => 0xF4#8
  | .xFC => 0xFC#8
  | .xFD => 0xFD#8

end Sys2Proof
end

