-- ==== Sys2Proof/Machine/Alu16.lean ====
section
/-! DEFINITION. 16-bit arithmetic (43_alu16.md R290 to R294). -/

namespace Sys2Proof.Machine

/-! ### The shared operations -/

/-- `ADD HL,rr`: Z kept, N = 0, carries out of bits 11 and 15 (R290). -/
def addHlPair (k : OpKey) (p : RegPair) (s : State) : Result :=
  let out := addWord s.hl (s.pair p)
  (((s.fetched 1).setHl out.res).setFlags s.flagZ false out.h out.c).finish k true

/-- `INC rr`: no flags (R291). -/
def incPair (k : OpKey) (p : RegPair) (s : State) : Result := ((s.fetched 1).setPair p (s.pair p + 1#16)).finish k true

/-- `DEC rr`: no flags (R292). -/
def decPair (k : OpKey) (p : RegPair) (s : State) : Result := ((s.fetched 1).setPair p (s.pair p - 1#16)).finish k true

/-- `ADD SP,e`: Z = N = 0, H and C of R294 (R293). -/
def addSpOffset (k : OpKey) (e : Byte) (s : State) : Result :=
  let out := addSpSigned s.cpu.sp e
  (((s.fetched 2).setSp out.res).setFlags false false out.h out.c).finish k true

/-! ### The meanings, one for each row -/

/-- `INC BC` (R291). -/
def exec_inc_bc (s : State) : Result := incPair (.base 0x03#8) .bc s
/-- `ADD HL,BC` (R290). -/
def exec_add_hl_bc (s : State) : Result := addHlPair (.base 0x09#8) .bc s
/-- `DEC BC` (R292). -/
def exec_dec_bc (s : State) : Result := decPair (.base 0x0B#8) .bc s
/-- `INC DE` (R291). -/
def exec_inc_de (s : State) : Result := incPair (.base 0x13#8) .de s
/-- `ADD HL,DE` (R290). -/
def exec_add_hl_de (s : State) : Result := addHlPair (.base 0x19#8) .de s
/-- `DEC DE` (R292). -/
def exec_dec_de (s : State) : Result := decPair (.base 0x1B#8) .de s
/-- `INC HL` (R291). -/
def exec_inc_hl (s : State) : Result := incPair (.base 0x23#8) .hl s
/-- `ADD HL,HL` (R290). -/
def exec_add_hl_hl (s : State) : Result := addHlPair (.base 0x29#8) .hl s
/-- `DEC HL` (R292). -/
def exec_dec_hl (s : State) : Result := decPair (.base 0x2B#8) .hl s
/-- `INC SP` (R291). -/
def exec_inc_sp (s : State) : Result := incPair (.base 0x33#8) .sp s
/-- `ADD HL,SP` (R290). -/
def exec_add_hl_sp (s : State) : Result := addHlPair (.base 0x39#8) .sp s
/-- `DEC SP` (R292). -/
def exec_dec_sp (s : State) : Result := decPair (.base 0x3B#8) .sp s
/-- `ADD SP,e8` (R293). -/
def exec_add_sp_e8 (e : Byte) (s : State) : Result := addSpOffset (.base 0xE8#8) e s

end Sys2Proof.Machine
end

