-- ==== Sys2Proof/Machine/Alu8.lean ====
section
/-! DEFINITION. 8-bit arithmetic and logic (42_alu8.md R250 to R284). -/

namespace Sys2Proof.Machine

/-! ### The shared operations -/

/-- An ALU operation on a register (R253, R256, R259, R262, R265, R268, R271, R274). -/
def aluReg (k : OpKey) (op : AluOp) (r : Reg8) (s : State) : Result := ((s.fetched 1).alu op (s.reg r)).finish k true

/-- An ALU operation on (HL) (R254, R257, R260, R263, R266, R269, R272, R275). -/
def aluMem (k : OpKey) (op : AluOp) (s : State) : Result := ((s.fetched 1).alu op (s.read s.hl)).finish k true

/-- An ALU operation on an immediate (R255, R258, R261, R264, R267, R270, R273, R276). -/
def aluImm (k : OpKey) (op : AluOp) (n : Byte) (s : State) : Result := ((s.fetched 2).alu op n).finish k true

/-- `INC r` (R277). -/
def incReg (k : OpKey) (r : Reg8) (s : State) : Result :=
  (((s.fetched 1).incFlags (s.reg r)).setReg r (s.reg r + 1#8)).finish k true

/-- `DEC r` (R279). -/
def decReg (k : OpKey) (r : Reg8) (s : State) : Result :=
  (((s.fetched 1).decFlags (s.reg r)).setReg r (s.reg r - 1#8)).finish k true

/-- `INC (HL)`: one read, then one write of the same address (R278). -/
def incMem (k : OpKey) (s : State) : Result :=
  (((s.fetched 1).incFlags (s.read s.hl)).write s.hl (s.read s.hl + 1#8)).finish k true

/-- `DEC (HL)` (R280). -/
def decMem (k : OpKey) (s : State) : Result :=
  (((s.fetched 1).decFlags (s.read s.hl)).write s.hl (s.read s.hl - 1#8)).finish k true

/-- `DAA`: Z from the result, N kept, H = 0 (R281). -/
def daaOp (k : OpKey) (s : State) : Result :=
  let out := daaOut s.cpu.a s.flagN s.flagH s.flagC
  (((s.fetched 1).setA out.1).setFlags (decide (out.1 = 0x00#8)) s.flagN false out.2).finish k true

/-- `CPL`: N = H = 1, Z and C kept (R282). -/
def cplOp (k : OpKey) (s : State) : Result :=
  (((s.fetched 1).setA (s.cpu.a ^^^ 0xFF#8)).setFlags s.flagZ true true s.flagC).finish k true

/-- `SCF`: C = 1, N = H = 0, Z kept (R283). -/
def scfOp (k : OpKey) (s : State) : Result := ((s.fetched 1).setFlags s.flagZ false false true).finish k true

/-- `CCF`: C complemented, N = H = 0, Z kept (R284). -/
def ccfOp (k : OpKey) (s : State) : Result := ((s.fetched 1).setFlags s.flagZ false false (!s.flagC)).finish k true

/-! ### The meanings, one for each row -/

/-- `INC B` (R277). -/
def exec_inc_b (s : State) : Result := incReg (.base 0x04#8) .b s
/-- `DEC B` (R279). -/
def exec_dec_b (s : State) : Result := decReg (.base 0x05#8) .b s
/-- `INC C` (R277). -/
def exec_inc_c (s : State) : Result := incReg (.base 0x0C#8) .c s
/-- `DEC C` (R279). -/
def exec_dec_c (s : State) : Result := decReg (.base 0x0D#8) .c s
/-- `INC D` (R277). -/
def exec_inc_d (s : State) : Result := incReg (.base 0x14#8) .d s
/-- `DEC D` (R279). -/
def exec_dec_d (s : State) : Result := decReg (.base 0x15#8) .d s
/-- `INC E` (R277). -/
def exec_inc_e (s : State) : Result := incReg (.base 0x1C#8) .e s
/-- `DEC E` (R279). -/
def exec_dec_e (s : State) : Result := decReg (.base 0x1D#8) .e s
/-- `INC H` (R277). -/
def exec_inc_h (s : State) : Result := incReg (.base 0x24#8) .h s
/-- `DEC H` (R279). -/
def exec_dec_h (s : State) : Result := decReg (.base 0x25#8) .h s
/-- `DAA` (R281). -/
def exec_daa (s : State) : Result := daaOp (.base 0x27#8) s
/-- `INC L` (R277). -/
def exec_inc_l (s : State) : Result := incReg (.base 0x2C#8) .l s
/-- `DEC L` (R279). -/
def exec_dec_l (s : State) : Result := decReg (.base 0x2D#8) .l s
/-- `CPL` (R282). -/
def exec_cpl (s : State) : Result := cplOp (.base 0x2F#8) s
/-- `INC (HL)` (R278). -/
def exec_inc_atHL (s : State) : Result := incMem (.base 0x34#8) s
/-- `DEC (HL)` (R280). -/
def exec_dec_atHL (s : State) : Result := decMem (.base 0x35#8) s
/-- `SCF` (R283). -/
def exec_scf (s : State) : Result := scfOp (.base 0x37#8) s
/-- `INC A` (R277). -/
def exec_inc_a (s : State) : Result := incReg (.base 0x3C#8) .a s
/-- `DEC A` (R279). -/
def exec_dec_a (s : State) : Result := decReg (.base 0x3D#8) .a s
/-- `CCF` (R284). -/
def exec_ccf (s : State) : Result := ccfOp (.base 0x3F#8) s
/-- `ADD A,B` (R253). -/
def exec_add_a_b (s : State) : Result := aluReg (.base 0x80#8) .add .b s
/-- `ADD A,C` (R253). -/
def exec_add_a_c (s : State) : Result := aluReg (.base 0x81#8) .add .c s
/-- `ADD A,D` (R253). -/
def exec_add_a_d (s : State) : Result := aluReg (.base 0x82#8) .add .d s
/-- `ADD A,E` (R253). -/
def exec_add_a_e (s : State) : Result := aluReg (.base 0x83#8) .add .e s
/-- `ADD A,H` (R253). -/
def exec_add_a_h (s : State) : Result := aluReg (.base 0x84#8) .add .h s
/-- `ADD A,L` (R253). -/
def exec_add_a_l (s : State) : Result := aluReg (.base 0x85#8) .add .l s
/-- `ADD A,(HL)` (R254). -/
def exec_add_a_atHL (s : State) : Result := aluMem (.base 0x86#8) .add s
/-- `ADD A,A` (R253). -/
def exec_add_a_a (s : State) : Result := aluReg (.base 0x87#8) .add .a s
/-- `ADC A,B` (R256). -/
def exec_adc_a_b (s : State) : Result := aluReg (.base 0x88#8) .adc .b s
/-- `ADC A,C` (R256). -/
def exec_adc_a_c (s : State) : Result := aluReg (.base 0x89#8) .adc .c s
/-- `ADC A,D` (R256). -/
def exec_adc_a_d (s : State) : Result := aluReg (.base 0x8A#8) .adc .d s
/-- `ADC A,E` (R256). -/
def exec_adc_a_e (s : State) : Result := aluReg (.base 0x8B#8) .adc .e s
/-- `ADC A,H` (R256). -/
def exec_adc_a_h (s : State) : Result := aluReg (.base 0x8C#8) .adc .h s
/-- `ADC A,L` (R256). -/
def exec_adc_a_l (s : State) : Result := aluReg (.base 0x8D#8) .adc .l s
/-- `ADC A,(HL)` (R257). -/
def exec_adc_a_atHL (s : State) : Result := aluMem (.base 0x8E#8) .adc s
/-- `ADC A,A` (R256). -/
def exec_adc_a_a (s : State) : Result := aluReg (.base 0x8F#8) .adc .a s
/-- `SUB B` (R259). -/
def exec_sub_b (s : State) : Result := aluReg (.base 0x90#8) .sub .b s
/-- `SUB C` (R259). -/
def exec_sub_c (s : State) : Result := aluReg (.base 0x91#8) .sub .c s
/-- `SUB D` (R259). -/
def exec_sub_d (s : State) : Result := aluReg (.base 0x92#8) .sub .d s
/-- `SUB E` (R259). -/
def exec_sub_e (s : State) : Result := aluReg (.base 0x93#8) .sub .e s
/-- `SUB H` (R259). -/
def exec_sub_h (s : State) : Result := aluReg (.base 0x94#8) .sub .h s
/-- `SUB L` (R259). -/
def exec_sub_l (s : State) : Result := aluReg (.base 0x95#8) .sub .l s
/-- `SUB (HL)` (R260). -/
def exec_sub_atHL (s : State) : Result := aluMem (.base 0x96#8) .sub s
/-- `SUB A` (R259). -/
def exec_sub_a (s : State) : Result := aluReg (.base 0x97#8) .sub .a s
/-- `SBC A,B` (R262). -/
def exec_sbc_a_b (s : State) : Result := aluReg (.base 0x98#8) .sbc .b s
/-- `SBC A,C` (R262). -/
def exec_sbc_a_c (s : State) : Result := aluReg (.base 0x99#8) .sbc .c s
/-- `SBC A,D` (R262). -/
def exec_sbc_a_d (s : State) : Result := aluReg (.base 0x9A#8) .sbc .d s
/-- `SBC A,E` (R262). -/
def exec_sbc_a_e (s : State) : Result := aluReg (.base 0x9B#8) .sbc .e s
/-- `SBC A,H` (R262). -/
def exec_sbc_a_h (s : State) : Result := aluReg (.base 0x9C#8) .sbc .h s
/-- `SBC A,L` (R262). -/
def exec_sbc_a_l (s : State) : Result := aluReg (.base 0x9D#8) .sbc .l s
/-- `SBC A,(HL)` (R263). -/
def exec_sbc_a_atHL (s : State) : Result := aluMem (.base 0x9E#8) .sbc s
/-- `SBC A,A` (R262). -/
def exec_sbc_a_a (s : State) : Result := aluReg (.base 0x9F#8) .sbc .a s
/-- `AND B` (R265). -/
def exec_and_b (s : State) : Result := aluReg (.base 0xA0#8) .and .b s
/-- `AND C` (R265). -/
def exec_and_c (s : State) : Result := aluReg (.base 0xA1#8) .and .c s
/-- `AND D` (R265). -/
def exec_and_d (s : State) : Result := aluReg (.base 0xA2#8) .and .d s
/-- `AND E` (R265). -/
def exec_and_e (s : State) : Result := aluReg (.base 0xA3#8) .and .e s
/-- `AND H` (R265). -/
def exec_and_h (s : State) : Result := aluReg (.base 0xA4#8) .and .h s
/-- `AND L` (R265). -/
def exec_and_l (s : State) : Result := aluReg (.base 0xA5#8) .and .l s
/-- `AND (HL)` (R266). -/
def exec_and_atHL (s : State) : Result := aluMem (.base 0xA6#8) .and s
/-- `AND A` (R265). -/
def exec_and_a (s : State) : Result := aluReg (.base 0xA7#8) .and .a s
/-- `XOR B` (R268). -/
def exec_xor_b (s : State) : Result := aluReg (.base 0xA8#8) .xor .b s
/-- `XOR C` (R268). -/
def exec_xor_c (s : State) : Result := aluReg (.base 0xA9#8) .xor .c s
/-- `XOR D` (R268). -/
def exec_xor_d (s : State) : Result := aluReg (.base 0xAA#8) .xor .d s
/-- `XOR E` (R268). -/
def exec_xor_e (s : State) : Result := aluReg (.base 0xAB#8) .xor .e s
/-- `XOR H` (R268). -/
def exec_xor_h (s : State) : Result := aluReg (.base 0xAC#8) .xor .h s
/-- `XOR L` (R268). -/
def exec_xor_l (s : State) : Result := aluReg (.base 0xAD#8) .xor .l s
/-- `XOR (HL)` (R269). -/
def exec_xor_atHL (s : State) : Result := aluMem (.base 0xAE#8) .xor s
/-- `XOR A` (R268). -/
def exec_xor_a (s : State) : Result := aluReg (.base 0xAF#8) .xor .a s
/-- `OR B` (R271). -/
def exec_or_b (s : State) : Result := aluReg (.base 0xB0#8) .or .b s
/-- `OR C` (R271). -/
def exec_or_c (s : State) : Result := aluReg (.base 0xB1#8) .or .c s
/-- `OR D` (R271). -/
def exec_or_d (s : State) : Result := aluReg (.base 0xB2#8) .or .d s
/-- `OR E` (R271). -/
def exec_or_e (s : State) : Result := aluReg (.base 0xB3#8) .or .e s
/-- `OR H` (R271). -/
def exec_or_h (s : State) : Result := aluReg (.base 0xB4#8) .or .h s
/-- `OR L` (R271). -/
def exec_or_l (s : State) : Result := aluReg (.base 0xB5#8) .or .l s
/-- `OR (HL)` (R272). -/
def exec_or_atHL (s : State) : Result := aluMem (.base 0xB6#8) .or s
/-- `OR A` (R271). -/
def exec_or_a (s : State) : Result := aluReg (.base 0xB7#8) .or .a s
/-- `CP B` (R274). -/
def exec_cp_b (s : State) : Result := aluReg (.base 0xB8#8) .cp .b s
/-- `CP C` (R274). -/
def exec_cp_c (s : State) : Result := aluReg (.base 0xB9#8) .cp .c s
/-- `CP D` (R274). -/
def exec_cp_d (s : State) : Result := aluReg (.base 0xBA#8) .cp .d s
/-- `CP E` (R274). -/
def exec_cp_e (s : State) : Result := aluReg (.base 0xBB#8) .cp .e s
/-- `CP H` (R274). -/
def exec_cp_h (s : State) : Result := aluReg (.base 0xBC#8) .cp .h s
/-- `CP L` (R274). -/
def exec_cp_l (s : State) : Result := aluReg (.base 0xBD#8) .cp .l s
/-- `CP (HL)` (R275). -/
def exec_cp_atHL (s : State) : Result := aluMem (.base 0xBE#8) .cp s
/-- `CP A` (R274). -/
def exec_cp_a (s : State) : Result := aluReg (.base 0xBF#8) .cp .a s
/-- `ADD A,n8` (R255). -/
def exec_add_a_n8 (n : Byte) (s : State) : Result := aluImm (.base 0xC6#8) .add n s
/-- `ADC A,n8` (R258). -/
def exec_adc_a_n8 (n : Byte) (s : State) : Result := aluImm (.base 0xCE#8) .adc n s
/-- `SUB n8` (R261). -/
def exec_sub_n8 (n : Byte) (s : State) : Result := aluImm (.base 0xD6#8) .sub n s
/-- `SBC A,n8` (R264). -/
def exec_sbc_a_n8 (n : Byte) (s : State) : Result := aluImm (.base 0xDE#8) .sbc n s
/-- `AND n8` (R267). -/
def exec_and_n8 (n : Byte) (s : State) : Result := aluImm (.base 0xE6#8) .and n s
/-- `XOR n8` (R270). -/
def exec_xor_n8 (n : Byte) (s : State) : Result := aluImm (.base 0xEE#8) .xor n s
/-- `OR n8` (R273). -/
def exec_or_n8 (n : Byte) (s : State) : Result := aluImm (.base 0xF6#8) .or n s
/-- `CP n8` (R276). -/
def exec_cp_n8 (n : Byte) (s : State) : Result := aluImm (.base 0xFE#8) .cp n s

end Sys2Proof.Machine
end

