-- ==== Sys2Proof/Machine/BitOps.lean ====
section
/-! DEFINITION. BIT, RES and SET (44_rotate_shift_bit.md R323 to R328). -/

namespace Sys2Proof.Machine

/-! ### The shared operations -/

/-- `BIT b`: flags only (R323, R324). -/
def bitTarget (k : OpKey) (b : Fin 8) (t : Target8) (s : State) : Result :=
  match t with
  | .reg r => ((s.fetched 2).bitFlags b (s.reg r)).finish k true
  | .atHL => ((s.fetched 2).bitFlags b (s.read s.hl)).finish k true

/-- `RES b`: no flags; on (HL) the write happens even when the bit was clear (R325, R326). -/
def resTarget (k : OpKey) (b : Fin 8) (t : Target8) (s : State) : Result :=
  match t with
  | .reg r => ((s.fetched 2).setReg r (s.reg r &&& ~~~bitMask b)).finish k true
  | .atHL => ((s.fetched 2).write s.hl (s.read s.hl &&& ~~~bitMask b)).finish k true

/-- `SET b`: no flags (R327, R328). -/
def setTarget (k : OpKey) (b : Fin 8) (t : Target8) (s : State) : Result :=
  match t with
  | .reg r => ((s.fetched 2).setReg r (s.reg r ||| bitMask b)).finish k true
  | .atHL => ((s.fetched 2).write s.hl (s.read s.hl ||| bitMask b)).finish k true

/-! ### The meanings, one for each row -/

/-- `BIT 0,B` (R323). -/
def exec_bit_0_b (s : State) : Result := bitTarget (.cb 0x40#8) 0 (.reg .b) s
/-- `BIT 0,C` (R323). -/
def exec_bit_0_c (s : State) : Result := bitTarget (.cb 0x41#8) 0 (.reg .c) s
/-- `BIT 0,D` (R323). -/
def exec_bit_0_d (s : State) : Result := bitTarget (.cb 0x42#8) 0 (.reg .d) s
/-- `BIT 0,E` (R323). -/
def exec_bit_0_e (s : State) : Result := bitTarget (.cb 0x43#8) 0 (.reg .e) s
/-- `BIT 0,H` (R323). -/
def exec_bit_0_h (s : State) : Result := bitTarget (.cb 0x44#8) 0 (.reg .h) s
/-- `BIT 0,L` (R323). -/
def exec_bit_0_l (s : State) : Result := bitTarget (.cb 0x45#8) 0 (.reg .l) s
/-- `BIT 0,(HL)` (R324). -/
def exec_bit_0_atHL (s : State) : Result := bitTarget (.cb 0x46#8) 0 .atHL s
/-- `BIT 0,A` (R323). -/
def exec_bit_0_a (s : State) : Result := bitTarget (.cb 0x47#8) 0 (.reg .a) s
/-- `BIT 1,B` (R323). -/
def exec_bit_1_b (s : State) : Result := bitTarget (.cb 0x48#8) 1 (.reg .b) s
/-- `BIT 1,C` (R323). -/
def exec_bit_1_c (s : State) : Result := bitTarget (.cb 0x49#8) 1 (.reg .c) s
/-- `BIT 1,D` (R323). -/
def exec_bit_1_d (s : State) : Result := bitTarget (.cb 0x4A#8) 1 (.reg .d) s
/-- `BIT 1,E` (R323). -/
def exec_bit_1_e (s : State) : Result := bitTarget (.cb 0x4B#8) 1 (.reg .e) s
/-- `BIT 1,H` (R323). -/
def exec_bit_1_h (s : State) : Result := bitTarget (.cb 0x4C#8) 1 (.reg .h) s
/-- `BIT 1,L` (R323). -/
def exec_bit_1_l (s : State) : Result := bitTarget (.cb 0x4D#8) 1 (.reg .l) s
/-- `BIT 1,(HL)` (R324). -/
def exec_bit_1_atHL (s : State) : Result := bitTarget (.cb 0x4E#8) 1 .atHL s
/-- `BIT 1,A` (R323). -/
def exec_bit_1_a (s : State) : Result := bitTarget (.cb 0x4F#8) 1 (.reg .a) s
/-- `BIT 2,B` (R323). -/
def exec_bit_2_b (s : State) : Result := bitTarget (.cb 0x50#8) 2 (.reg .b) s
/-- `BIT 2,C` (R323). -/
def exec_bit_2_c (s : State) : Result := bitTarget (.cb 0x51#8) 2 (.reg .c) s
/-- `BIT 2,D` (R323). -/
def exec_bit_2_d (s : State) : Result := bitTarget (.cb 0x52#8) 2 (.reg .d) s
/-- `BIT 2,E` (R323). -/
def exec_bit_2_e (s : State) : Result := bitTarget (.cb 0x53#8) 2 (.reg .e) s
/-- `BIT 2,H` (R323). -/
def exec_bit_2_h (s : State) : Result := bitTarget (.cb 0x54#8) 2 (.reg .h) s
/-- `BIT 2,L` (R323). -/
def exec_bit_2_l (s : State) : Result := bitTarget (.cb 0x55#8) 2 (.reg .l) s
/-- `BIT 2,(HL)` (R324). -/
def exec_bit_2_atHL (s : State) : Result := bitTarget (.cb 0x56#8) 2 .atHL s
/-- `BIT 2,A` (R323). -/
def exec_bit_2_a (s : State) : Result := bitTarget (.cb 0x57#8) 2 (.reg .a) s
/-- `BIT 3,B` (R323). -/
def exec_bit_3_b (s : State) : Result := bitTarget (.cb 0x58#8) 3 (.reg .b) s
/-- `BIT 3,C` (R323). -/
def exec_bit_3_c (s : State) : Result := bitTarget (.cb 0x59#8) 3 (.reg .c) s
/-- `BIT 3,D` (R323). -/
def exec_bit_3_d (s : State) : Result := bitTarget (.cb 0x5A#8) 3 (.reg .d) s
/-- `BIT 3,E` (R323). -/
def exec_bit_3_e (s : State) : Result := bitTarget (.cb 0x5B#8) 3 (.reg .e) s
/-- `BIT 3,H` (R323). -/
def exec_bit_3_h (s : State) : Result := bitTarget (.cb 0x5C#8) 3 (.reg .h) s
/-- `BIT 3,L` (R323). -/
def exec_bit_3_l (s : State) : Result := bitTarget (.cb 0x5D#8) 3 (.reg .l) s
/-- `BIT 3,(HL)` (R324). -/
def exec_bit_3_atHL (s : State) : Result := bitTarget (.cb 0x5E#8) 3 .atHL s
/-- `BIT 3,A` (R323). -/
def exec_bit_3_a (s : State) : Result := bitTarget (.cb 0x5F#8) 3 (.reg .a) s
/-- `BIT 4,B` (R323). -/
def exec_bit_4_b (s : State) : Result := bitTarget (.cb 0x60#8) 4 (.reg .b) s
/-- `BIT 4,C` (R323). -/
def exec_bit_4_c (s : State) : Result := bitTarget (.cb 0x61#8) 4 (.reg .c) s
/-- `BIT 4,D` (R323). -/
def exec_bit_4_d (s : State) : Result := bitTarget (.cb 0x62#8) 4 (.reg .d) s
/-- `BIT 4,E` (R323). -/
def exec_bit_4_e (s : State) : Result := bitTarget (.cb 0x63#8) 4 (.reg .e) s
/-- `BIT 4,H` (R323). -/
def exec_bit_4_h (s : State) : Result := bitTarget (.cb 0x64#8) 4 (.reg .h) s
/-- `BIT 4,L` (R323). -/
def exec_bit_4_l (s : State) : Result := bitTarget (.cb 0x65#8) 4 (.reg .l) s
/-- `BIT 4,(HL)` (R324). -/
def exec_bit_4_atHL (s : State) : Result := bitTarget (.cb 0x66#8) 4 .atHL s
/-- `BIT 4,A` (R323). -/
def exec_bit_4_a (s : State) : Result := bitTarget (.cb 0x67#8) 4 (.reg .a) s
/-- `BIT 5,B` (R323). -/
def exec_bit_5_b (s : State) : Result := bitTarget (.cb 0x68#8) 5 (.reg .b) s
/-- `BIT 5,C` (R323). -/
def exec_bit_5_c (s : State) : Result := bitTarget (.cb 0x69#8) 5 (.reg .c) s
/-- `BIT 5,D` (R323). -/
def exec_bit_5_d (s : State) : Result := bitTarget (.cb 0x6A#8) 5 (.reg .d) s
/-- `BIT 5,E` (R323). -/
def exec_bit_5_e (s : State) : Result := bitTarget (.cb 0x6B#8) 5 (.reg .e) s
/-- `BIT 5,H` (R323). -/
def exec_bit_5_h (s : State) : Result := bitTarget (.cb 0x6C#8) 5 (.reg .h) s
/-- `BIT 5,L` (R323). -/
def exec_bit_5_l (s : State) : Result := bitTarget (.cb 0x6D#8) 5 (.reg .l) s
/-- `BIT 5,(HL)` (R324). -/
def exec_bit_5_atHL (s : State) : Result := bitTarget (.cb 0x6E#8) 5 .atHL s
/-- `BIT 5,A` (R323). -/
def exec_bit_5_a (s : State) : Result := bitTarget (.cb 0x6F#8) 5 (.reg .a) s
/-- `BIT 6,B` (R323). -/
def exec_bit_6_b (s : State) : Result := bitTarget (.cb 0x70#8) 6 (.reg .b) s
/-- `BIT 6,C` (R323). -/
def exec_bit_6_c (s : State) : Result := bitTarget (.cb 0x71#8) 6 (.reg .c) s
/-- `BIT 6,D` (R323). -/
def exec_bit_6_d (s : State) : Result := bitTarget (.cb 0x72#8) 6 (.reg .d) s
/-- `BIT 6,E` (R323). -/
def exec_bit_6_e (s : State) : Result := bitTarget (.cb 0x73#8) 6 (.reg .e) s
/-- `BIT 6,H` (R323). -/
def exec_bit_6_h (s : State) : Result := bitTarget (.cb 0x74#8) 6 (.reg .h) s
/-- `BIT 6,L` (R323). -/
def exec_bit_6_l (s : State) : Result := bitTarget (.cb 0x75#8) 6 (.reg .l) s
/-- `BIT 6,(HL)` (R324). -/
def exec_bit_6_atHL (s : State) : Result := bitTarget (.cb 0x76#8) 6 .atHL s
/-- `BIT 6,A` (R323). -/
def exec_bit_6_a (s : State) : Result := bitTarget (.cb 0x77#8) 6 (.reg .a) s
/-- `BIT 7,B` (R323). -/
def exec_bit_7_b (s : State) : Result := bitTarget (.cb 0x78#8) 7 (.reg .b) s
/-- `BIT 7,C` (R323). -/
def exec_bit_7_c (s : State) : Result := bitTarget (.cb 0x79#8) 7 (.reg .c) s
/-- `BIT 7,D` (R323). -/
def exec_bit_7_d (s : State) : Result := bitTarget (.cb 0x7A#8) 7 (.reg .d) s
/-- `BIT 7,E` (R323). -/
def exec_bit_7_e (s : State) : Result := bitTarget (.cb 0x7B#8) 7 (.reg .e) s
/-- `BIT 7,H` (R323). -/
def exec_bit_7_h (s : State) : Result := bitTarget (.cb 0x7C#8) 7 (.reg .h) s
/-- `BIT 7,L` (R323). -/
def exec_bit_7_l (s : State) : Result := bitTarget (.cb 0x7D#8) 7 (.reg .l) s
/-- `BIT 7,(HL)` (R324). -/
def exec_bit_7_atHL (s : State) : Result := bitTarget (.cb 0x7E#8) 7 .atHL s
/-- `BIT 7,A` (R323). -/
def exec_bit_7_a (s : State) : Result := bitTarget (.cb 0x7F#8) 7 (.reg .a) s
/-- `RES 0,B` (R325). -/
def exec_res_0_b (s : State) : Result := resTarget (.cb 0x80#8) 0 (.reg .b) s
/-- `RES 0,C` (R325). -/
def exec_res_0_c (s : State) : Result := resTarget (.cb 0x81#8) 0 (.reg .c) s
/-- `RES 0,D` (R325). -/
def exec_res_0_d (s : State) : Result := resTarget (.cb 0x82#8) 0 (.reg .d) s
/-- `RES 0,E` (R325). -/
def exec_res_0_e (s : State) : Result := resTarget (.cb 0x83#8) 0 (.reg .e) s
/-- `RES 0,H` (R325). -/
def exec_res_0_h (s : State) : Result := resTarget (.cb 0x84#8) 0 (.reg .h) s
/-- `RES 0,L` (R325). -/
def exec_res_0_l (s : State) : Result := resTarget (.cb 0x85#8) 0 (.reg .l) s
/-- `RES 0,(HL)` (R326). -/
def exec_res_0_atHL (s : State) : Result := resTarget (.cb 0x86#8) 0 .atHL s
/-- `RES 0,A` (R325). -/
def exec_res_0_a (s : State) : Result := resTarget (.cb 0x87#8) 0 (.reg .a) s
/-- `RES 1,B` (R325). -/
def exec_res_1_b (s : State) : Result := resTarget (.cb 0x88#8) 1 (.reg .b) s
/-- `RES 1,C` (R325). -/
def exec_res_1_c (s : State) : Result := resTarget (.cb 0x89#8) 1 (.reg .c) s
/-- `RES 1,D` (R325). -/
def exec_res_1_d (s : State) : Result := resTarget (.cb 0x8A#8) 1 (.reg .d) s
/-- `RES 1,E` (R325). -/
def exec_res_1_e (s : State) : Result := resTarget (.cb 0x8B#8) 1 (.reg .e) s
/-- `RES 1,H` (R325). -/
def exec_res_1_h (s : State) : Result := resTarget (.cb 0x8C#8) 1 (.reg .h) s
/-- `RES 1,L` (R325). -/
def exec_res_1_l (s : State) : Result := resTarget (.cb 0x8D#8) 1 (.reg .l) s
/-- `RES 1,(HL)` (R326). -/
def exec_res_1_atHL (s : State) : Result := resTarget (.cb 0x8E#8) 1 .atHL s
/-- `RES 1,A` (R325). -/
def exec_res_1_a (s : State) : Result := resTarget (.cb 0x8F#8) 1 (.reg .a) s
/-- `RES 2,B` (R325). -/
def exec_res_2_b (s : State) : Result := resTarget (.cb 0x90#8) 2 (.reg .b) s
/-- `RES 2,C` (R325). -/
def exec_res_2_c (s : State) : Result := resTarget (.cb 0x91#8) 2 (.reg .c) s
/-- `RES 2,D` (R325). -/
def exec_res_2_d (s : State) : Result := resTarget (.cb 0x92#8) 2 (.reg .d) s
/-- `RES 2,E` (R325). -/
def exec_res_2_e (s : State) : Result := resTarget (.cb 0x93#8) 2 (.reg .e) s
/-- `RES 2,H` (R325). -/
def exec_res_2_h (s : State) : Result := resTarget (.cb 0x94#8) 2 (.reg .h) s
/-- `RES 2,L` (R325). -/
def exec_res_2_l (s : State) : Result := resTarget (.cb 0x95#8) 2 (.reg .l) s
/-- `RES 2,(HL)` (R326). -/
def exec_res_2_atHL (s : State) : Result := resTarget (.cb 0x96#8) 2 .atHL s
/-- `RES 2,A` (R325). -/
def exec_res_2_a (s : State) : Result := resTarget (.cb 0x97#8) 2 (.reg .a) s
/-- `RES 3,B` (R325). -/
def exec_res_3_b (s : State) : Result := resTarget (.cb 0x98#8) 3 (.reg .b) s
/-- `RES 3,C` (R325). -/
def exec_res_3_c (s : State) : Result := resTarget (.cb 0x99#8) 3 (.reg .c) s
/-- `RES 3,D` (R325). -/
def exec_res_3_d (s : State) : Result := resTarget (.cb 0x9A#8) 3 (.reg .d) s
/-- `RES 3,E` (R325). -/
def exec_res_3_e (s : State) : Result := resTarget (.cb 0x9B#8) 3 (.reg .e) s
/-- `RES 3,H` (R325). -/
def exec_res_3_h (s : State) : Result := resTarget (.cb 0x9C#8) 3 (.reg .h) s
/-- `RES 3,L` (R325). -/
def exec_res_3_l (s : State) : Result := resTarget (.cb 0x9D#8) 3 (.reg .l) s
/-- `RES 3,(HL)` (R326). -/
def exec_res_3_atHL (s : State) : Result := resTarget (.cb 0x9E#8) 3 .atHL s
/-- `RES 3,A` (R325). -/
def exec_res_3_a (s : State) : Result := resTarget (.cb 0x9F#8) 3 (.reg .a) s
/-- `RES 4,B` (R325). -/
def exec_res_4_b (s : State) : Result := resTarget (.cb 0xA0#8) 4 (.reg .b) s
/-- `RES 4,C` (R325). -/
def exec_res_4_c (s : State) : Result := resTarget (.cb 0xA1#8) 4 (.reg .c) s
/-- `RES 4,D` (R325). -/
def exec_res_4_d (s : State) : Result := resTarget (.cb 0xA2#8) 4 (.reg .d) s
/-- `RES 4,E` (R325). -/
def exec_res_4_e (s : State) : Result := resTarget (.cb 0xA3#8) 4 (.reg .e) s
/-- `RES 4,H` (R325). -/
def exec_res_4_h (s : State) : Result := resTarget (.cb 0xA4#8) 4 (.reg .h) s
/-- `RES 4,L` (R325). -/
def exec_res_4_l (s : State) : Result := resTarget (.cb 0xA5#8) 4 (.reg .l) s
/-- `RES 4,(HL)` (R326). -/
def exec_res_4_atHL (s : State) : Result := resTarget (.cb 0xA6#8) 4 .atHL s
/-- `RES 4,A` (R325). -/
def exec_res_4_a (s : State) : Result := resTarget (.cb 0xA7#8) 4 (.reg .a) s
/-- `RES 5,B` (R325). -/
def exec_res_5_b (s : State) : Result := resTarget (.cb 0xA8#8) 5 (.reg .b) s
/-- `RES 5,C` (R325). -/
def exec_res_5_c (s : State) : Result := resTarget (.cb 0xA9#8) 5 (.reg .c) s
/-- `RES 5,D` (R325). -/
def exec_res_5_d (s : State) : Result := resTarget (.cb 0xAA#8) 5 (.reg .d) s
/-- `RES 5,E` (R325). -/
def exec_res_5_e (s : State) : Result := resTarget (.cb 0xAB#8) 5 (.reg .e) s
/-- `RES 5,H` (R325). -/
def exec_res_5_h (s : State) : Result := resTarget (.cb 0xAC#8) 5 (.reg .h) s
/-- `RES 5,L` (R325). -/
def exec_res_5_l (s : State) : Result := resTarget (.cb 0xAD#8) 5 (.reg .l) s
/-- `RES 5,(HL)` (R326). -/
def exec_res_5_atHL (s : State) : Result := resTarget (.cb 0xAE#8) 5 .atHL s
/-- `RES 5,A` (R325). -/
def exec_res_5_a (s : State) : Result := resTarget (.cb 0xAF#8) 5 (.reg .a) s
/-- `RES 6,B` (R325). -/
def exec_res_6_b (s : State) : Result := resTarget (.cb 0xB0#8) 6 (.reg .b) s
/-- `RES 6,C` (R325). -/
def exec_res_6_c (s : State) : Result := resTarget (.cb 0xB1#8) 6 (.reg .c) s
/-- `RES 6,D` (R325). -/
def exec_res_6_d (s : State) : Result := resTarget (.cb 0xB2#8) 6 (.reg .d) s
/-- `RES 6,E` (R325). -/
def exec_res_6_e (s : State) : Result := resTarget (.cb 0xB3#8) 6 (.reg .e) s
/-- `RES 6,H` (R325). -/
def exec_res_6_h (s : State) : Result := resTarget (.cb 0xB4#8) 6 (.reg .h) s
/-- `RES 6,L` (R325). -/
def exec_res_6_l (s : State) : Result := resTarget (.cb 0xB5#8) 6 (.reg .l) s
/-- `RES 6,(HL)` (R326). -/
def exec_res_6_atHL (s : State) : Result := resTarget (.cb 0xB6#8) 6 .atHL s
/-- `RES 6,A` (R325). -/
def exec_res_6_a (s : State) : Result := resTarget (.cb 0xB7#8) 6 (.reg .a) s
/-- `RES 7,B` (R325). -/
def exec_res_7_b (s : State) : Result := resTarget (.cb 0xB8#8) 7 (.reg .b) s
/-- `RES 7,C` (R325). -/
def exec_res_7_c (s : State) : Result := resTarget (.cb 0xB9#8) 7 (.reg .c) s
/-- `RES 7,D` (R325). -/
def exec_res_7_d (s : State) : Result := resTarget (.cb 0xBA#8) 7 (.reg .d) s
/-- `RES 7,E` (R325). -/
def exec_res_7_e (s : State) : Result := resTarget (.cb 0xBB#8) 7 (.reg .e) s
/-- `RES 7,H` (R325). -/
def exec_res_7_h (s : State) : Result := resTarget (.cb 0xBC#8) 7 (.reg .h) s
/-- `RES 7,L` (R325). -/
def exec_res_7_l (s : State) : Result := resTarget (.cb 0xBD#8) 7 (.reg .l) s
/-- `RES 7,(HL)` (R326). -/
def exec_res_7_atHL (s : State) : Result := resTarget (.cb 0xBE#8) 7 .atHL s
/-- `RES 7,A` (R325). -/
def exec_res_7_a (s : State) : Result := resTarget (.cb 0xBF#8) 7 (.reg .a) s
/-- `SET 0,B` (R327). -/
def exec_set_0_b (s : State) : Result := setTarget (.cb 0xC0#8) 0 (.reg .b) s
/-- `SET 0,C` (R327). -/
def exec_set_0_c (s : State) : Result := setTarget (.cb 0xC1#8) 0 (.reg .c) s
/-- `SET 0,D` (R327). -/
def exec_set_0_d (s : State) : Result := setTarget (.cb 0xC2#8) 0 (.reg .d) s
/-- `SET 0,E` (R327). -/
def exec_set_0_e (s : State) : Result := setTarget (.cb 0xC3#8) 0 (.reg .e) s
/-- `SET 0,H` (R327). -/
def exec_set_0_h (s : State) : Result := setTarget (.cb 0xC4#8) 0 (.reg .h) s
/-- `SET 0,L` (R327). -/
def exec_set_0_l (s : State) : Result := setTarget (.cb 0xC5#8) 0 (.reg .l) s
/-- `SET 0,(HL)` (R328). -/
def exec_set_0_atHL (s : State) : Result := setTarget (.cb 0xC6#8) 0 .atHL s
/-- `SET 0,A` (R327). -/
def exec_set_0_a (s : State) : Result := setTarget (.cb 0xC7#8) 0 (.reg .a) s
/-- `SET 1,B` (R327). -/
def exec_set_1_b (s : State) : Result := setTarget (.cb 0xC8#8) 1 (.reg .b) s
/-- `SET 1,C` (R327). -/
def exec_set_1_c (s : State) : Result := setTarget (.cb 0xC9#8) 1 (.reg .c) s
/-- `SET 1,D` (R327). -/
def exec_set_1_d (s : State) : Result := setTarget (.cb 0xCA#8) 1 (.reg .d) s
/-- `SET 1,E` (R327). -/
def exec_set_1_e (s : State) : Result := setTarget (.cb 0xCB#8) 1 (.reg .e) s
/-- `SET 1,H` (R327). -/
def exec_set_1_h (s : State) : Result := setTarget (.cb 0xCC#8) 1 (.reg .h) s
/-- `SET 1,L` (R327). -/
def exec_set_1_l (s : State) : Result := setTarget (.cb 0xCD#8) 1 (.reg .l) s
/-- `SET 1,(HL)` (R328). -/
def exec_set_1_atHL (s : State) : Result := setTarget (.cb 0xCE#8) 1 .atHL s
/-- `SET 1,A` (R327). -/
def exec_set_1_a (s : State) : Result := setTarget (.cb 0xCF#8) 1 (.reg .a) s
/-- `SET 2,B` (R327). -/
def exec_set_2_b (s : State) : Result := setTarget (.cb 0xD0#8) 2 (.reg .b) s
/-- `SET 2,C` (R327). -/
def exec_set_2_c (s : State) : Result := setTarget (.cb 0xD1#8) 2 (.reg .c) s
/-- `SET 2,D` (R327). -/
def exec_set_2_d (s : State) : Result := setTarget (.cb 0xD2#8) 2 (.reg .d) s
/-- `SET 2,E` (R327). -/
def exec_set_2_e (s : State) : Result := setTarget (.cb 0xD3#8) 2 (.reg .e) s
/-- `SET 2,H` (R327). -/
def exec_set_2_h (s : State) : Result := setTarget (.cb 0xD4#8) 2 (.reg .h) s
/-- `SET 2,L` (R327). -/
def exec_set_2_l (s : State) : Result := setTarget (.cb 0xD5#8) 2 (.reg .l) s
/-- `SET 2,(HL)` (R328). -/
def exec_set_2_atHL (s : State) : Result := setTarget (.cb 0xD6#8) 2 .atHL s
/-- `SET 2,A` (R327). -/
def exec_set_2_a (s : State) : Result := setTarget (.cb 0xD7#8) 2 (.reg .a) s
/-- `SET 3,B` (R327). -/
def exec_set_3_b (s : State) : Result := setTarget (.cb 0xD8#8) 3 (.reg .b) s
/-- `SET 3,C` (R327). -/
def exec_set_3_c (s : State) : Result := setTarget (.cb 0xD9#8) 3 (.reg .c) s
/-- `SET 3,D` (R327). -/
def exec_set_3_d (s : State) : Result := setTarget (.cb 0xDA#8) 3 (.reg .d) s
/-- `SET 3,E` (R327). -/
def exec_set_3_e (s : State) : Result := setTarget (.cb 0xDB#8) 3 (.reg .e) s
/-- `SET 3,H` (R327). -/
def exec_set_3_h (s : State) : Result := setTarget (.cb 0xDC#8) 3 (.reg .h) s
/-- `SET 3,L` (R327). -/
def exec_set_3_l (s : State) : Result := setTarget (.cb 0xDD#8) 3 (.reg .l) s
/-- `SET 3,(HL)` (R328). -/
def exec_set_3_atHL (s : State) : Result := setTarget (.cb 0xDE#8) 3 .atHL s
/-- `SET 3,A` (R327). -/
def exec_set_3_a (s : State) : Result := setTarget (.cb 0xDF#8) 3 (.reg .a) s
/-- `SET 4,B` (R327). -/
def exec_set_4_b (s : State) : Result := setTarget (.cb 0xE0#8) 4 (.reg .b) s
/-- `SET 4,C` (R327). -/
def exec_set_4_c (s : State) : Result := setTarget (.cb 0xE1#8) 4 (.reg .c) s
/-- `SET 4,D` (R327). -/
def exec_set_4_d (s : State) : Result := setTarget (.cb 0xE2#8) 4 (.reg .d) s
/-- `SET 4,E` (R327). -/
def exec_set_4_e (s : State) : Result := setTarget (.cb 0xE3#8) 4 (.reg .e) s
/-- `SET 4,H` (R327). -/
def exec_set_4_h (s : State) : Result := setTarget (.cb 0xE4#8) 4 (.reg .h) s
/-- `SET 4,L` (R327). -/
def exec_set_4_l (s : State) : Result := setTarget (.cb 0xE5#8) 4 (.reg .l) s
/-- `SET 4,(HL)` (R328). -/
def exec_set_4_atHL (s : State) : Result := setTarget (.cb 0xE6#8) 4 .atHL s
/-- `SET 4,A` (R327). -/
def exec_set_4_a (s : State) : Result := setTarget (.cb 0xE7#8) 4 (.reg .a) s
/-- `SET 5,B` (R327). -/
def exec_set_5_b (s : State) : Result := setTarget (.cb 0xE8#8) 5 (.reg .b) s
/-- `SET 5,C` (R327). -/
def exec_set_5_c (s : State) : Result := setTarget (.cb 0xE9#8) 5 (.reg .c) s
/-- `SET 5,D` (R327). -/
def exec_set_5_d (s : State) : Result := setTarget (.cb 0xEA#8) 5 (.reg .d) s
/-- `SET 5,E` (R327). -/
def exec_set_5_e (s : State) : Result := setTarget (.cb 0xEB#8) 5 (.reg .e) s
/-- `SET 5,H` (R327). -/
def exec_set_5_h (s : State) : Result := setTarget (.cb 0xEC#8) 5 (.reg .h) s
/-- `SET 5,L` (R327). -/
def exec_set_5_l (s : State) : Result := setTarget (.cb 0xED#8) 5 (.reg .l) s
/-- `SET 5,(HL)` (R328). -/
def exec_set_5_atHL (s : State) : Result := setTarget (.cb 0xEE#8) 5 .atHL s
/-- `SET 5,A` (R327). -/
def exec_set_5_a (s : State) : Result := setTarget (.cb 0xEF#8) 5 (.reg .a) s
/-- `SET 6,B` (R327). -/
def exec_set_6_b (s : State) : Result := setTarget (.cb 0xF0#8) 6 (.reg .b) s
/-- `SET 6,C` (R327). -/
def exec_set_6_c (s : State) : Result := setTarget (.cb 0xF1#8) 6 (.reg .c) s
/-- `SET 6,D` (R327). -/
def exec_set_6_d (s : State) : Result := setTarget (.cb 0xF2#8) 6 (.reg .d) s
/-- `SET 6,E` (R327). -/
def exec_set_6_e (s : State) : Result := setTarget (.cb 0xF3#8) 6 (.reg .e) s
/-- `SET 6,H` (R327). -/
def exec_set_6_h (s : State) : Result := setTarget (.cb 0xF4#8) 6 (.reg .h) s
/-- `SET 6,L` (R327). -/
def exec_set_6_l (s : State) : Result := setTarget (.cb 0xF5#8) 6 (.reg .l) s
/-- `SET 6,(HL)` (R328). -/
def exec_set_6_atHL (s : State) : Result := setTarget (.cb 0xF6#8) 6 .atHL s
/-- `SET 6,A` (R327). -/
def exec_set_6_a (s : State) : Result := setTarget (.cb 0xF7#8) 6 (.reg .a) s
/-- `SET 7,B` (R327). -/
def exec_set_7_b (s : State) : Result := setTarget (.cb 0xF8#8) 7 (.reg .b) s
/-- `SET 7,C` (R327). -/
def exec_set_7_c (s : State) : Result := setTarget (.cb 0xF9#8) 7 (.reg .c) s
/-- `SET 7,D` (R327). -/
def exec_set_7_d (s : State) : Result := setTarget (.cb 0xFA#8) 7 (.reg .d) s
/-- `SET 7,E` (R327). -/
def exec_set_7_e (s : State) : Result := setTarget (.cb 0xFB#8) 7 (.reg .e) s
/-- `SET 7,H` (R327). -/
def exec_set_7_h (s : State) : Result := setTarget (.cb 0xFC#8) 7 (.reg .h) s
/-- `SET 7,L` (R327). -/
def exec_set_7_l (s : State) : Result := setTarget (.cb 0xFD#8) 7 (.reg .l) s
/-- `SET 7,(HL)` (R328). -/
def exec_set_7_atHL (s : State) : Result := setTarget (.cb 0xFE#8) 7 .atHL s
/-- `SET 7,A` (R327). -/
def exec_set_7_a (s : State) : Result := setTarget (.cb 0xFF#8) 7 (.reg .a) s

end Sys2Proof.Machine
end

