-- ==== Sys2Proof/Machine/Control.lean ====
section
/-! DEFINITION. Jumps, calls, returns and restarts (45_control.md R330 to R341). -/

namespace Sys2Proof.Machine

/-! ### The shared operations -/

/-- `JP nn` (R330). -/
def jumpAbs (k : OpKey) (nn : Word) (s : State) : Result := ((s.fetched 3).setPc nn).finish k true

/-- `JP cc,nn`: the operand is fetched whether or not the condition holds (R331). -/
def jumpAbsCond (k : OpKey) (cc : Cond) (nn : Word) (s : State) : Result :=
  if s.cond cc then ((s.fetched 3).setPc nn).finish k true else (s.fetched 3).finish k false

/-- `JP HL`: memory is not read (R332). -/
def jumpHl (k : OpKey) (s : State) : Result := ((s.fetched 1).setPc s.hl).finish k true

/-- `PC + sext_16(e)`, PC being the address after the operand byte (R333). -/
def relTarget (s : State) (e : Byte) : Word := (s.fetched 2).cpu.pc + sext16 e

/-- `JR e` (R333). -/
def jumpRel (k : OpKey) (e : Byte) (s : State) : Result := ((s.fetched 2).setPc (relTarget s e)).finish k true

/-- `JR cc,e` (R334). -/
def jumpRelCond (k : OpKey) (cc : Cond) (e : Byte) (s : State) : Result :=
  if s.cond cc then ((s.fetched 2).setPc (relTarget s e)).finish k true else (s.fetched 2).finish k false

/-- A call: the address after the instruction's bytes is pushed and PC goes to the target (R335, R340). -/
def State.callTo (s : State) (len : Nat) (target : Word) : State :=
  ((s.fetched len).push16 (s.fetched len).cpu.pc).setPc target

/-- `CALL nn` (R335). -/
def callAbs (k : OpKey) (nn : Word) (s : State) : Result := (s.callTo 3 nn).finish k true

/-- `CALL cc,nn` (R336). -/
def callCond (k : OpKey) (cc : Cond) (nn : Word) (s : State) : Result :=
  if s.cond cc then (s.callTo 3 nn).finish k true else (s.fetched 3).finish k false

/-- `RET` (R337). -/
def returnOp (k : OpKey) (s : State) : Result := (((s.fetched 1).popped).setPc s.popValue).finish k true

/-- `RET cc` (R338). -/
def returnCond (k : OpKey) (cc : Cond) (s : State) : Result :=
  if s.cond cc then (((s.fetched 1).popped).setPc s.popValue).finish k true else (s.fetched 1).finish k false

/-- `RETI`; `pendingIME` is not changed (R339). -/
def retiOp (k : OpKey) (s : State) : Result := (s.fetched 1).returnFromInterrupt.finish k true

/-- `RST t`, `t` eight times the argument (R340). -/
def restart (k : OpKey) (t : Fin 8) (s : State) : Result := (s.callTo 1 (BitVec.ofNat 16 (8 * t.val))).finish k true

/-! ### The meanings, one for each row -/

/-- `JR e8` (R333). -/
def exec_jr_e8 (e : Byte) (s : State) : Result := jumpRel (.base 0x18#8) e s
/-- `JR NZ,e8` (R334). -/
def exec_jr_nz_e8 (e : Byte) (s : State) : Result := jumpRelCond (.base 0x20#8) .nz e s
/-- `JR Z,e8` (R334). -/
def exec_jr_z_e8 (e : Byte) (s : State) : Result := jumpRelCond (.base 0x28#8) .z e s
/-- `JR NC,e8` (R334). -/
def exec_jr_nc_e8 (e : Byte) (s : State) : Result := jumpRelCond (.base 0x30#8) .nc e s
/-- `JR C,e8` (R334). -/
def exec_jr_c_e8 (e : Byte) (s : State) : Result := jumpRelCond (.base 0x38#8) .c e s
/-- `RET NZ` (R338). -/
def exec_ret_nz (s : State) : Result := returnCond (.base 0xC0#8) .nz s
/-- `JP NZ,n16` (R331). -/
def exec_jp_nz_n16 (nn : Word) (s : State) : Result := jumpAbsCond (.base 0xC2#8) .nz nn s
/-- `JP n16` (R330). -/
def exec_jp_n16 (nn : Word) (s : State) : Result := jumpAbs (.base 0xC3#8) nn s
/-- `CALL NZ,n16` (R336). -/
def exec_call_nz_n16 (nn : Word) (s : State) : Result := callCond (.base 0xC4#8) .nz nn s
/-- `RST 00H` (R340). -/
def exec_rst_00h (s : State) : Result := restart (.base 0xC7#8) 0 s
/-- `RET Z` (R338). -/
def exec_ret_z (s : State) : Result := returnCond (.base 0xC8#8) .z s
/-- `RET` (R337). -/
def exec_ret (s : State) : Result := returnOp (.base 0xC9#8) s
/-- `JP Z,n16` (R331). -/
def exec_jp_z_n16 (nn : Word) (s : State) : Result := jumpAbsCond (.base 0xCA#8) .z nn s
/-- `CALL Z,n16` (R336). -/
def exec_call_z_n16 (nn : Word) (s : State) : Result := callCond (.base 0xCC#8) .z nn s
/-- `CALL n16` (R335). -/
def exec_call_n16 (nn : Word) (s : State) : Result := callAbs (.base 0xCD#8) nn s
/-- `RST 08H` (R340). -/
def exec_rst_08h (s : State) : Result := restart (.base 0xCF#8) 1 s
/-- `RET NC` (R338). -/
def exec_ret_nc (s : State) : Result := returnCond (.base 0xD0#8) .nc s
/-- `JP NC,n16` (R331). -/
def exec_jp_nc_n16 (nn : Word) (s : State) : Result := jumpAbsCond (.base 0xD2#8) .nc nn s
/-- `CALL NC,n16` (R336). -/
def exec_call_nc_n16 (nn : Word) (s : State) : Result := callCond (.base 0xD4#8) .nc nn s
/-- `RST 10H` (R340). -/
def exec_rst_10h (s : State) : Result := restart (.base 0xD7#8) 2 s
/-- `RET C` (R338). -/
def exec_ret_c (s : State) : Result := returnCond (.base 0xD8#8) .c s
/-- `RETI` (R339). -/
def exec_reti (s : State) : Result := retiOp (.base 0xD9#8) s
/-- `JP C,n16` (R331). -/
def exec_jp_c_n16 (nn : Word) (s : State) : Result := jumpAbsCond (.base 0xDA#8) .c nn s
/-- `CALL C,n16` (R336). -/
def exec_call_c_n16 (nn : Word) (s : State) : Result := callCond (.base 0xDC#8) .c nn s
/-- `RST 18H` (R340). -/
def exec_rst_18h (s : State) : Result := restart (.base 0xDF#8) 3 s
/-- `RST 20H` (R340). -/
def exec_rst_20h (s : State) : Result := restart (.base 0xE7#8) 4 s
/-- `JP HL` (R332). -/
def exec_jp_hl (s : State) : Result := jumpHl (.base 0xE9#8) s
/-- `RST 28H` (R340). -/
def exec_rst_28h (s : State) : Result := restart (.base 0xEF#8) 5 s
/-- `RST 30H` (R340). -/
def exec_rst_30h (s : State) : Result := restart (.base 0xF7#8) 6 s
/-- `RST 38H` (R340). -/
def exec_rst_38h (s : State) : Result := restart (.base 0xFF#8) 7 s

end Sys2Proof.Machine
end

