-- ==== Sys2Proof/Machine/Load16.lean ====
section
/-! DEFINITION. The 16-bit loads and the stack instructions (41_load16_stack.md R230 to R235). -/

namespace Sys2Proof.Machine

/-! ### The shared operations -/

/-- `LD rr,nn` (R230). -/
def loadPairImm (k : OpKey) (p : RegPair) (nn : Word) (s : State) : Result := ((s.fetched 3).setPair p nn).finish k true

/-- `LD (nn),SP` (R231). -/
def storeSpAbs (k : OpKey) (nn : Word) (s : State) : Result := ((s.fetched 3).writeWord nn s.cpu.sp).finish k true

/-- `LD SP,HL` (R232). -/
def loadSpHl (k : OpKey) (s : State) : Result := ((s.fetched 1).setSp s.hl).finish k true

/-- `PUSH rr` (R233). -/
def pushPair (k : OpKey) (p : StackPair) (s : State) : Result := ((s.fetched 1).push16 (s.stackPair p)).finish k true

/-- `POP rr` (R234). -/
def popPair (k : OpKey) (p : StackPair) (s : State) : Result :=
  (((s.fetched 1).popped).setStackPair p s.popValue).finish k true

/-- `LD HL,SP+e`: Z = N = 0, H and C of R294 (R235). -/
def loadHlSpOffset (k : OpKey) (e : Byte) (s : State) : Result :=
  let out := addSpSigned s.cpu.sp e
  (((s.fetched 2).setHl out.res).setFlags false false out.h out.c).finish k true

/-! ### The meanings, one for each row -/

/-- `LD BC,n16` (R230). -/
def exec_ld_bc_n16 (nn : Word) (s : State) : Result := loadPairImm (.base 0x01#8) .bc nn s
/-- `LD (n16),SP` (R231). -/
def exec_ld_atN16_sp (nn : Word) (s : State) : Result := storeSpAbs (.base 0x08#8) nn s
/-- `LD DE,n16` (R230). -/
def exec_ld_de_n16 (nn : Word) (s : State) : Result := loadPairImm (.base 0x11#8) .de nn s
/-- `LD HL,n16` (R230). -/
def exec_ld_hl_n16 (nn : Word) (s : State) : Result := loadPairImm (.base 0x21#8) .hl nn s
/-- `LD SP,n16` (R230). -/
def exec_ld_sp_n16 (nn : Word) (s : State) : Result := loadPairImm (.base 0x31#8) .sp nn s
/-- `POP BC` (R234). -/
def exec_pop_bc (s : State) : Result := popPair (.base 0xC1#8) .bc s
/-- `PUSH BC` (R233). -/
def exec_push_bc (s : State) : Result := pushPair (.base 0xC5#8) .bc s
/-- `POP DE` (R234). -/
def exec_pop_de (s : State) : Result := popPair (.base 0xD1#8) .de s
/-- `PUSH DE` (R233). -/
def exec_push_de (s : State) : Result := pushPair (.base 0xD5#8) .de s
/-- `POP HL` (R234). -/
def exec_pop_hl (s : State) : Result := popPair (.base 0xE1#8) .hl s
/-- `PUSH HL` (R233). -/
def exec_push_hl (s : State) : Result := pushPair (.base 0xE5#8) .hl s
/-- `POP AF` (R234). -/
def exec_pop_af (s : State) : Result := popPair (.base 0xF1#8) .af s
/-- `PUSH AF` (R233). -/
def exec_push_af (s : State) : Result := pushPair (.base 0xF5#8) .af s
/-- `LD HL,SP+e8` (R235). -/
def exec_ld_hl_spE8 (e : Byte) (s : State) : Result := loadHlSpOffset (.base 0xF8#8) e s
/-- `LD SP,HL` (R232). -/
def exec_ld_sp_hl (s : State) : Result := loadSpHl (.base 0xF9#8) s

end Sys2Proof.Machine
end

