-- ==== Sys2Proof/Machine/Load8.lean ====
section
/-! DEFINITION. The 8-bit loads (40_load8.md R200 to R218). No load writes a flag. -/

namespace Sys2Proof.Machine

/-! ### The shared operations -/

/-- `LD r,r'` (R200). -/
def loadRegReg (k : OpKey) (dst r : Reg8) (s : State) : Result := ((s.fetched 1).setReg dst (s.reg r)).finish k true

/-- `LD r,n` (R201). -/
def loadRegImm (k : OpKey) (dst : Reg8) (n : Byte) (s : State) : Result := ((s.fetched 2).setReg dst n).finish k true

/-- `LD r,(HL)` (R202). -/
def loadRegMem (k : OpKey) (dst : Reg8) (s : State) : Result := ((s.fetched 1).setReg dst (s.read s.hl)).finish k true

/-- `LD (HL),r` (R203). -/
def storeMemReg (k : OpKey) (r : Reg8) (s : State) : Result := ((s.fetched 1).write s.hl (s.reg r)).finish k true

/-- `LD (HL),n`; the operand is fetched before the store (R204). -/
def loadMemImm (k : OpKey) (n : Byte) (s : State) : Result := ((s.fetched 2).write s.hl n).finish k true

/-- `LD A,(BC)` and `LD A,(DE)` (R205, R206). -/
def loadAAtPair (k : OpKey) (p : RegPair) (s : State) : Result := ((s.fetched 1).setA (s.read (s.pair p))).finish k true

/-- `LD (BC),A` and `LD (DE),A` (R207, R208). -/
def storeAAtPair (k : OpKey) (p : RegPair) (s : State) : Result := ((s.fetched 1).write (s.pair p) s.cpu.a).finish k true

/-- `LD A,(nn)` (R209). -/
def loadAAbs (k : OpKey) (nn : Word) (s : State) : Result := ((s.fetched 3).setA (s.read nn)).finish k true

/-- `LD (nn),A` (R210). -/
def storeAAbs (k : OpKey) (nn : Word) (s : State) : Result := ((s.fetched 3).write nn s.cpu.a).finish k true

/-- The address of an LDH form: 0xFF00 plus an 8-bit offset (R211 to R214). -/
def highAddr (off : Byte) : Word := 0xFF00#16 + zext16 off

/-- `LDH A,(C)` (R211). -/
def loadAHighC (k : OpKey) (s : State) : Result := ((s.fetched 1).setA (s.read (highAddr s.cpu.c))).finish k true

/-- `LDH (C),A` (R212). -/
def storeAHighC (k : OpKey) (s : State) : Result := ((s.fetched 1).write (highAddr s.cpu.c) s.cpu.a).finish k true

/-- `LDH A,(n)` (R213). -/
def loadAHigh (k : OpKey) (n : Byte) (s : State) : Result := ((s.fetched 2).setA (s.read (highAddr n))).finish k true

/-- `LDH (n),A` (R214). -/
def storeAHigh (k : OpKey) (n : Byte) (s : State) : Result := ((s.fetched 2).write (highAddr n) s.cpu.a).finish k true

/-- `LD (HL+),A` and `LD (HL-),A`: the store, then HL steps (R215, R217). -/
def storeAAtHLStep (k : OpKey) (delta : Word) (s : State) : Result :=
  (((s.fetched 1).write s.hl s.cpu.a).setHl (s.hl + delta)).finish k true

/-- `LD A,(HL+)` and `LD A,(HL-)`: the load, then HL steps (R216, R218). -/
def loadAAtHLStep (k : OpKey) (delta : Word) (s : State) : Result :=
  (((s.fetched 1).setA (s.read s.hl)).setHl (s.hl + delta)).finish k true

/-! ### The meanings, one for each row -/

/-- `LD (BC),A` (R207). -/
def exec_ld_atBC_a (s : State) : Result := storeAAtPair (.base 0x02#8) .bc s
/-- `LD B,n8` (R201). -/
def exec_ld_b_n8 (n : Byte) (s : State) : Result := loadRegImm (.base 0x06#8) .b n s
/-- `LD A,(BC)` (R205). -/
def exec_ld_a_atBC (s : State) : Result := loadAAtPair (.base 0x0A#8) .bc s
/-- `LD C,n8` (R201). -/
def exec_ld_c_n8 (n : Byte) (s : State) : Result := loadRegImm (.base 0x0E#8) .c n s
/-- `LD (DE),A` (R208). -/
def exec_ld_atDE_a (s : State) : Result := storeAAtPair (.base 0x12#8) .de s
/-- `LD D,n8` (R201). -/
def exec_ld_d_n8 (n : Byte) (s : State) : Result := loadRegImm (.base 0x16#8) .d n s
/-- `LD A,(DE)` (R206). -/
def exec_ld_a_atDE (s : State) : Result := loadAAtPair (.base 0x1A#8) .de s
/-- `LD E,n8` (R201). -/
def exec_ld_e_n8 (n : Byte) (s : State) : Result := loadRegImm (.base 0x1E#8) .e n s
/-- `LD (HL+),A` (R215). -/
def exec_ld_atHLI_a (s : State) : Result := storeAAtHLStep (.base 0x22#8) 1#16 s
/-- `LD H,n8` (R201). -/
def exec_ld_h_n8 (n : Byte) (s : State) : Result := loadRegImm (.base 0x26#8) .h n s
/-- `LD A,(HL+)` (R216). -/
def exec_ld_a_atHLI (s : State) : Result := loadAAtHLStep (.base 0x2A#8) 1#16 s
/-- `LD L,n8` (R201). -/
def exec_ld_l_n8 (n : Byte) (s : State) : Result := loadRegImm (.base 0x2E#8) .l n s
/-- `LD (HL-),A` (R217). -/
def exec_ld_atHLD_a (s : State) : Result := storeAAtHLStep (.base 0x32#8) (-1#16) s
/-- `LD (HL),n8` (R204). -/
def exec_ld_atHL_n8 (n : Byte) (s : State) : Result := loadMemImm (.base 0x36#8) n s
/-- `LD A,(HL-)` (R218). -/
def exec_ld_a_atHLD (s : State) : Result := loadAAtHLStep (.base 0x3A#8) (-1#16) s
/-- `LD A,n8` (R201). -/
def exec_ld_a_n8 (n : Byte) (s : State) : Result := loadRegImm (.base 0x3E#8) .a n s
/-- `LD B,B` (R200). -/
def exec_ld_b_b (s : State) : Result := loadRegReg (.base 0x40#8) .b .b s
/-- `LD B,C` (R200). -/
def exec_ld_b_c (s : State) : Result := loadRegReg (.base 0x41#8) .b .c s
/-- `LD B,D` (R200). -/
def exec_ld_b_d (s : State) : Result := loadRegReg (.base 0x42#8) .b .d s
/-- `LD B,E` (R200). -/
def exec_ld_b_e (s : State) : Result := loadRegReg (.base 0x43#8) .b .e s
/-- `LD B,H` (R200). -/
def exec_ld_b_h (s : State) : Result := loadRegReg (.base 0x44#8) .b .h s
/-- `LD B,L` (R200). -/
def exec_ld_b_l (s : State) : Result := loadRegReg (.base 0x45#8) .b .l s
/-- `LD B,(HL)` (R202). -/
def exec_ld_b_atHL (s : State) : Result := loadRegMem (.base 0x46#8) .b s
/-- `LD B,A` (R200). -/
def exec_ld_b_a (s : State) : Result := loadRegReg (.base 0x47#8) .b .a s
/-- `LD C,B` (R200). -/
def exec_ld_c_b (s : State) : Result := loadRegReg (.base 0x48#8) .c .b s
/-- `LD C,C` (R200). -/
def exec_ld_c_c (s : State) : Result := loadRegReg (.base 0x49#8) .c .c s
/-- `LD C,D` (R200). -/
def exec_ld_c_d (s : State) : Result := loadRegReg (.base 0x4A#8) .c .d s
/-- `LD C,E` (R200). -/
def exec_ld_c_e (s : State) : Result := loadRegReg (.base 0x4B#8) .c .e s
/-- `LD C,H` (R200). -/
def exec_ld_c_h (s : State) : Result := loadRegReg (.base 0x4C#8) .c .h s
/-- `LD C,L` (R200). -/
def exec_ld_c_l (s : State) : Result := loadRegReg (.base 0x4D#8) .c .l s
/-- `LD C,(HL)` (R202). -/
def exec_ld_c_atHL (s : State) : Result := loadRegMem (.base 0x4E#8) .c s
/-- `LD C,A` (R200). -/
def exec_ld_c_a (s : State) : Result := loadRegReg (.base 0x4F#8) .c .a s
/-- `LD D,B` (R200). -/
def exec_ld_d_b (s : State) : Result := loadRegReg (.base 0x50#8) .d .b s
/-- `LD D,C` (R200). -/
def exec_ld_d_c (s : State) : Result := loadRegReg (.base 0x51#8) .d .c s
/-- `LD D,D` (R200). -/
def exec_ld_d_d (s : State) : Result := loadRegReg (.base 0x52#8) .d .d s
/-- `LD D,E` (R200). -/
def exec_ld_d_e (s : State) : Result := loadRegReg (.base 0x53#8) .d .e s
/-- `LD D,H` (R200). -/
def exec_ld_d_h (s : State) : Result := loadRegReg (.base 0x54#8) .d .h s
/-- `LD D,L` (R200). -/
def exec_ld_d_l (s : State) : Result := loadRegReg (.base 0x55#8) .d .l s
/-- `LD D,(HL)` (R202). -/
def exec_ld_d_atHL (s : State) : Result := loadRegMem (.base 0x56#8) .d s
/-- `LD D,A` (R200). -/
def exec_ld_d_a (s : State) : Result := loadRegReg (.base 0x57#8) .d .a s
/-- `LD E,B` (R200). -/
def exec_ld_e_b (s : State) : Result := loadRegReg (.base 0x58#8) .e .b s
/-- `LD E,C` (R200). -/
def exec_ld_e_c (s : State) : Result := loadRegReg (.base 0x59#8) .e .c s
/-- `LD E,D` (R200). -/
def exec_ld_e_d (s : State) : Result := loadRegReg (.base 0x5A#8) .e .d s
/-- `LD E,E` (R200). -/
def exec_ld_e_e (s : State) : Result := loadRegReg (.base 0x5B#8) .e .e s
/-- `LD E,H` (R200). -/
def exec_ld_e_h (s : State) : Result := loadRegReg (.base 0x5C#8) .e .h s
/-- `LD E,L` (R200). -/
def exec_ld_e_l (s : State) : Result := loadRegReg (.base 0x5D#8) .e .l s
/-- `LD E,(HL)` (R202). -/
def exec_ld_e_atHL (s : State) : Result := loadRegMem (.base 0x5E#8) .e s
/-- `LD E,A` (R200). -/
def exec_ld_e_a (s : State) : Result := loadRegReg (.base 0x5F#8) .e .a s
/-- `LD H,B` (R200). -/
def exec_ld_h_b (s : State) : Result := loadRegReg (.base 0x60#8) .h .b s
/-- `LD H,C` (R200). -/
def exec_ld_h_c (s : State) : Result := loadRegReg (.base 0x61#8) .h .c s
/-- `LD H,D` (R200). -/
def exec_ld_h_d (s : State) : Result := loadRegReg (.base 0x62#8) .h .d s
/-- `LD H,E` (R200). -/
def exec_ld_h_e (s : State) : Result := loadRegReg (.base 0x63#8) .h .e s
/-- `LD H,H` (R200). -/
def exec_ld_h_h (s : State) : Result := loadRegReg (.base 0x64#8) .h .h s
/-- `LD H,L` (R200). -/
def exec_ld_h_l (s : State) : Result := loadRegReg (.base 0x65#8) .h .l s
/-- `LD H,(HL)` (R202). -/
def exec_ld_h_atHL (s : State) : Result := loadRegMem (.base 0x66#8) .h s
/-- `LD H,A` (R200). -/
def exec_ld_h_a (s : State) : Result := loadRegReg (.base 0x67#8) .h .a s
/-- `LD L,B` (R200). -/
def exec_ld_l_b (s : State) : Result := loadRegReg (.base 0x68#8) .l .b s
/-- `LD L,C` (R200). -/
def exec_ld_l_c (s : State) : Result := loadRegReg (.base 0x69#8) .l .c s
/-- `LD L,D` (R200). -/
def exec_ld_l_d (s : State) : Result := loadRegReg (.base 0x6A#8) .l .d s
/-- `LD L,E` (R200). -/
def exec_ld_l_e (s : State) : Result := loadRegReg (.base 0x6B#8) .l .e s
/-- `LD L,H` (R200). -/
def exec_ld_l_h (s : State) : Result := loadRegReg (.base 0x6C#8) .l .h s
/-- `LD L,L` (R200). -/
def exec_ld_l_l (s : State) : Result := loadRegReg (.base 0x6D#8) .l .l s
/-- `LD L,(HL)` (R202). -/
def exec_ld_l_atHL (s : State) : Result := loadRegMem (.base 0x6E#8) .l s
/-- `LD L,A` (R200). -/
def exec_ld_l_a (s : State) : Result := loadRegReg (.base 0x6F#8) .l .a s
/-- `LD (HL),B` (R203). -/
def exec_ld_atHL_b (s : State) : Result := storeMemReg (.base 0x70#8) .b s
/-- `LD (HL),C` (R203). -/
def exec_ld_atHL_c (s : State) : Result := storeMemReg (.base 0x71#8) .c s
/-- `LD (HL),D` (R203). -/
def exec_ld_atHL_d (s : State) : Result := storeMemReg (.base 0x72#8) .d s
/-- `LD (HL),E` (R203). -/
def exec_ld_atHL_e (s : State) : Result := storeMemReg (.base 0x73#8) .e s
/-- `LD (HL),H` (R203). -/
def exec_ld_atHL_h (s : State) : Result := storeMemReg (.base 0x74#8) .h s
/-- `LD (HL),L` (R203). -/
def exec_ld_atHL_l (s : State) : Result := storeMemReg (.base 0x75#8) .l s
/-- `LD (HL),A` (R203). -/
def exec_ld_atHL_a (s : State) : Result := storeMemReg (.base 0x77#8) .a s
/-- `LD A,B` (R200). -/
def exec_ld_a_b (s : State) : Result := loadRegReg (.base 0x78#8) .a .b s
/-- `LD A,C` (R200). -/
def exec_ld_a_c (s : State) : Result := loadRegReg (.base 0x79#8) .a .c s
/-- `LD A,D` (R200). -/
def exec_ld_a_d (s : State) : Result := loadRegReg (.base 0x7A#8) .a .d s
/-- `LD A,E` (R200). -/
def exec_ld_a_e (s : State) : Result := loadRegReg (.base 0x7B#8) .a .e s
/-- `LD A,H` (R200). -/
def exec_ld_a_h (s : State) : Result := loadRegReg (.base 0x7C#8) .a .h s
/-- `LD A,L` (R200). -/
def exec_ld_a_l (s : State) : Result := loadRegReg (.base 0x7D#8) .a .l s
/-- `LD A,(HL)` (R202). -/
def exec_ld_a_atHL (s : State) : Result := loadRegMem (.base 0x7E#8) .a s
/-- `LD A,A` (R200). -/
def exec_ld_a_a (s : State) : Result := loadRegReg (.base 0x7F#8) .a .a s
/-- `LDH (n8),A` (R214). -/
def exec_ldh_atN8_a (n : Byte) (s : State) : Result := storeAHigh (.base 0xE0#8) n s
/-- `LDH (C),A` (R212). -/
def exec_ldh_atC_a (s : State) : Result := storeAHighC (.base 0xE2#8) s
/-- `LD (n16),A` (R210). -/
def exec_ld_atN16_a (nn : Word) (s : State) : Result := storeAAbs (.base 0xEA#8) nn s
/-- `LDH A,(n8)` (R213). -/
def exec_ldh_a_atN8 (n : Byte) (s : State) : Result := loadAHigh (.base 0xF0#8) n s
/-- `LDH A,(C)` (R211). -/
def exec_ldh_a_atC (s : State) : Result := loadAHighC (.base 0xF2#8) s
/-- `LD A,(n16)` (R209). -/
def exec_ld_a_atN16 (nn : Word) (s : State) : Result := loadAAbs (.base 0xFA#8) nn s

end Sys2Proof.Machine
end

