-- ==== Sys2Proof/Machine/Rotate.lean ====
section
/-! DEFINITION. Rotates and shifts (44_rotate_shift_bit.md R300 to R322). -/

namespace Sys2Proof.Machine

/-! ### The shared operations -/

/-- The rotates of A in the base table: as `Shift`, with Z = 0 whatever the result (R301 to R304). -/
def rotA (k : OpKey) (kind : RotKind) (s : State) : Result :=
  (((s.fetched 1).setA (shiftRes kind s.cpu.a s.flagC)).setFlags false false false (shiftCarry kind s.cpu.a)).finish k true

/-- A rotate or shift of the `cb` table on a register or on (HL) (R306). -/
def rotTarget (k : OpKey) (kind : RotKind) (t : Target8) (s : State) : Result :=
  match t with
  | .reg r => (((s.fetched 2).rotFlags kind (s.reg r)).setReg r (shiftRes kind (s.reg r) s.flagC)).finish k true
  | .atHL =>
    (((s.fetched 2).rotFlags kind (s.read s.hl)).write s.hl (shiftRes kind (s.read s.hl) s.flagC)).finish k true

/-! ### The meanings, one for each row -/

/-- `RLCA` (R301). -/
def exec_rlca (s : State) : Result := rotA (.base 0x07#8) .rlc s
/-- `RRCA` (R302). -/
def exec_rrca (s : State) : Result := rotA (.base 0x0F#8) .rrc s
/-- `RLA` (R303). -/
def exec_rla (s : State) : Result := rotA (.base 0x17#8) .rl s
/-- `RRA` (R304). -/
def exec_rra (s : State) : Result := rotA (.base 0x1F#8) .rr s
/-- `RLC B` (R307). -/
def exec_rlc_b (s : State) : Result := rotTarget (.cb 0x00#8) .rlc (.reg .b) s
/-- `RLC C` (R307). -/
def exec_rlc_c (s : State) : Result := rotTarget (.cb 0x01#8) .rlc (.reg .c) s
/-- `RLC D` (R307). -/
def exec_rlc_d (s : State) : Result := rotTarget (.cb 0x02#8) .rlc (.reg .d) s
/-- `RLC E` (R307). -/
def exec_rlc_e (s : State) : Result := rotTarget (.cb 0x03#8) .rlc (.reg .e) s
/-- `RLC H` (R307). -/
def exec_rlc_h (s : State) : Result := rotTarget (.cb 0x04#8) .rlc (.reg .h) s
/-- `RLC L` (R307). -/
def exec_rlc_l (s : State) : Result := rotTarget (.cb 0x05#8) .rlc (.reg .l) s
/-- `RLC (HL)` (R315). -/
def exec_rlc_atHL (s : State) : Result := rotTarget (.cb 0x06#8) .rlc .atHL s
/-- `RLC A` (R307). -/
def exec_rlc_a (s : State) : Result := rotTarget (.cb 0x07#8) .rlc (.reg .a) s
/-- `RRC B` (R308). -/
def exec_rrc_b (s : State) : Result := rotTarget (.cb 0x08#8) .rrc (.reg .b) s
/-- `RRC C` (R308). -/
def exec_rrc_c (s : State) : Result := rotTarget (.cb 0x09#8) .rrc (.reg .c) s
/-- `RRC D` (R308). -/
def exec_rrc_d (s : State) : Result := rotTarget (.cb 0x0A#8) .rrc (.reg .d) s
/-- `RRC E` (R308). -/
def exec_rrc_e (s : State) : Result := rotTarget (.cb 0x0B#8) .rrc (.reg .e) s
/-- `RRC H` (R308). -/
def exec_rrc_h (s : State) : Result := rotTarget (.cb 0x0C#8) .rrc (.reg .h) s
/-- `RRC L` (R308). -/
def exec_rrc_l (s : State) : Result := rotTarget (.cb 0x0D#8) .rrc (.reg .l) s
/-- `RRC (HL)` (R316). -/
def exec_rrc_atHL (s : State) : Result := rotTarget (.cb 0x0E#8) .rrc .atHL s
/-- `RRC A` (R308). -/
def exec_rrc_a (s : State) : Result := rotTarget (.cb 0x0F#8) .rrc (.reg .a) s
/-- `RL B` (R309). -/
def exec_rl_b (s : State) : Result := rotTarget (.cb 0x10#8) .rl (.reg .b) s
/-- `RL C` (R309). -/
def exec_rl_c (s : State) : Result := rotTarget (.cb 0x11#8) .rl (.reg .c) s
/-- `RL D` (R309). -/
def exec_rl_d (s : State) : Result := rotTarget (.cb 0x12#8) .rl (.reg .d) s
/-- `RL E` (R309). -/
def exec_rl_e (s : State) : Result := rotTarget (.cb 0x13#8) .rl (.reg .e) s
/-- `RL H` (R309). -/
def exec_rl_h (s : State) : Result := rotTarget (.cb 0x14#8) .rl (.reg .h) s
/-- `RL L` (R309). -/
def exec_rl_l (s : State) : Result := rotTarget (.cb 0x15#8) .rl (.reg .l) s
/-- `RL (HL)` (R317). -/
def exec_rl_atHL (s : State) : Result := rotTarget (.cb 0x16#8) .rl .atHL s
/-- `RL A` (R309). -/
def exec_rl_a (s : State) : Result := rotTarget (.cb 0x17#8) .rl (.reg .a) s
/-- `RR B` (R310). -/
def exec_rr_b (s : State) : Result := rotTarget (.cb 0x18#8) .rr (.reg .b) s
/-- `RR C` (R310). -/
def exec_rr_c (s : State) : Result := rotTarget (.cb 0x19#8) .rr (.reg .c) s
/-- `RR D` (R310). -/
def exec_rr_d (s : State) : Result := rotTarget (.cb 0x1A#8) .rr (.reg .d) s
/-- `RR E` (R310). -/
def exec_rr_e (s : State) : Result := rotTarget (.cb 0x1B#8) .rr (.reg .e) s
/-- `RR H` (R310). -/
def exec_rr_h (s : State) : Result := rotTarget (.cb 0x1C#8) .rr (.reg .h) s
/-- `RR L` (R310). -/
def exec_rr_l (s : State) : Result := rotTarget (.cb 0x1D#8) .rr (.reg .l) s
/-- `RR (HL)` (R318). -/
def exec_rr_atHL (s : State) : Result := rotTarget (.cb 0x1E#8) .rr .atHL s
/-- `RR A` (R310). -/
def exec_rr_a (s : State) : Result := rotTarget (.cb 0x1F#8) .rr (.reg .a) s
/-- `SLA B` (R311). -/
def exec_sla_b (s : State) : Result := rotTarget (.cb 0x20#8) .sla (.reg .b) s
/-- `SLA C` (R311). -/
def exec_sla_c (s : State) : Result := rotTarget (.cb 0x21#8) .sla (.reg .c) s
/-- `SLA D` (R311). -/
def exec_sla_d (s : State) : Result := rotTarget (.cb 0x22#8) .sla (.reg .d) s
/-- `SLA E` (R311). -/
def exec_sla_e (s : State) : Result := rotTarget (.cb 0x23#8) .sla (.reg .e) s
/-- `SLA H` (R311). -/
def exec_sla_h (s : State) : Result := rotTarget (.cb 0x24#8) .sla (.reg .h) s
/-- `SLA L` (R311). -/
def exec_sla_l (s : State) : Result := rotTarget (.cb 0x25#8) .sla (.reg .l) s
/-- `SLA (HL)` (R319). -/
def exec_sla_atHL (s : State) : Result := rotTarget (.cb 0x26#8) .sla .atHL s
/-- `SLA A` (R311). -/
def exec_sla_a (s : State) : Result := rotTarget (.cb 0x27#8) .sla (.reg .a) s
/-- `SRA B` (R312). -/
def exec_sra_b (s : State) : Result := rotTarget (.cb 0x28#8) .sra (.reg .b) s
/-- `SRA C` (R312). -/
def exec_sra_c (s : State) : Result := rotTarget (.cb 0x29#8) .sra (.reg .c) s
/-- `SRA D` (R312). -/
def exec_sra_d (s : State) : Result := rotTarget (.cb 0x2A#8) .sra (.reg .d) s
/-- `SRA E` (R312). -/
def exec_sra_e (s : State) : Result := rotTarget (.cb 0x2B#8) .sra (.reg .e) s
/-- `SRA H` (R312). -/
def exec_sra_h (s : State) : Result := rotTarget (.cb 0x2C#8) .sra (.reg .h) s
/-- `SRA L` (R312). -/
def exec_sra_l (s : State) : Result := rotTarget (.cb 0x2D#8) .sra (.reg .l) s
/-- `SRA (HL)` (R320). -/
def exec_sra_atHL (s : State) : Result := rotTarget (.cb 0x2E#8) .sra .atHL s
/-- `SRA A` (R312). -/
def exec_sra_a (s : State) : Result := rotTarget (.cb 0x2F#8) .sra (.reg .a) s
/-- `SWAP B` (R313). -/
def exec_swap_b (s : State) : Result := rotTarget (.cb 0x30#8) .swap (.reg .b) s
/-- `SWAP C` (R313). -/
def exec_swap_c (s : State) : Result := rotTarget (.cb 0x31#8) .swap (.reg .c) s
/-- `SWAP D` (R313). -/
def exec_swap_d (s : State) : Result := rotTarget (.cb 0x32#8) .swap (.reg .d) s
/-- `SWAP E` (R313). -/
def exec_swap_e (s : State) : Result := rotTarget (.cb 0x33#8) .swap (.reg .e) s
/-- `SWAP H` (R313). -/
def exec_swap_h (s : State) : Result := rotTarget (.cb 0x34#8) .swap (.reg .h) s
/-- `SWAP L` (R313). -/
def exec_swap_l (s : State) : Result := rotTarget (.cb 0x35#8) .swap (.reg .l) s
/-- `SWAP (HL)` (R321). -/
def exec_swap_atHL (s : State) : Result := rotTarget (.cb 0x36#8) .swap .atHL s
/-- `SWAP A` (R313). -/
def exec_swap_a (s : State) : Result := rotTarget (.cb 0x37#8) .swap (.reg .a) s
/-- `SRL B` (R314). -/
def exec_srl_b (s : State) : Result := rotTarget (.cb 0x38#8) .srl (.reg .b) s
/-- `SRL C` (R314). -/
def exec_srl_c (s : State) : Result := rotTarget (.cb 0x39#8) .srl (.reg .c) s
/-- `SRL D` (R314). -/
def exec_srl_d (s : State) : Result := rotTarget (.cb 0x3A#8) .srl (.reg .d) s
/-- `SRL E` (R314). -/
def exec_srl_e (s : State) : Result := rotTarget (.cb 0x3B#8) .srl (.reg .e) s
/-- `SRL H` (R314). -/
def exec_srl_h (s : State) : Result := rotTarget (.cb 0x3C#8) .srl (.reg .h) s
/-- `SRL L` (R314). -/
def exec_srl_l (s : State) : Result := rotTarget (.cb 0x3D#8) .srl (.reg .l) s
/-- `SRL (HL)` (R322). -/
def exec_srl_atHL (s : State) : Result := rotTarget (.cb 0x3E#8) .srl .atHL s
/-- `SRL A` (R314). -/
def exec_srl_a (s : State) : Result := rotTarget (.cb 0x3F#8) .srl (.reg .a) s

end Sys2Proof.Machine
end

