-- ==== Sys2Proof/Machine/System.lean ====
section
/-! DEFINITION. NOP, HALT, STOP, DI, EI, the undefined opcodes and the prefix row (46_system.md R360 to R366, R305). -/

namespace Sys2Proof.Machine

/-! ### The shared operations -/

/-- `NOP` (R360). -/
def nopOp (k : OpKey) (s : State) : Result := (s.fetched 1).finish k true

/-- `STOP`: the padding byte is fetched and ignored; the CPU does not stop (R362). -/
def stopOp (k : OpKey) (s : State) : Result := (s.fetched 2).finish k true

/-- `HALT`: halts if IME is set or nothing is pending; otherwise sets the HALT-bug latch (R361). -/
def haltOp (k : OpKey) (s : State) : Result :=
  let s1 := s.fetched 1
  if s.cpu.ime ∨ s.pending = 0#5 then State.finish { s1 with cpu := { s1.cpu with halted := true } } k true
  else State.finish { s1 with cpu := { s1.cpu with haltBug := true } } k true

/-- `DI`: IME and pendingIME are cleared at once (R363). -/
def diOp (k : OpKey) (s : State) : Result :=
  let s1 := s.fetched 1
  State.finish { s1 with cpu := { s1.cpu with ime := false, pendingIme := false } } k true

/-- `EI`: sets pendingIME; IME follows after the next instruction (R364). -/
def eiOp (k : OpKey) (s : State) : Result :=
  let s1 := s.fetched 1
  State.finish { s1 with cpu := { s1.cpu with pendingIme := true } } k true

/-- An undefined opcode raises UndefinedOpcode and locks the CPU (R365). -/
def illegalOp (byte : Byte) (s : State) : Result := s.raiseUndefined byte

/-- The prefix row: the `cb` instruction the byte after 0xCB selects by its fields x, y and z (R305, R170). -/
def prefixOp (op2 : Byte) (s : State) : Result :=
  let y : Fin 8 := Fin.ofNat 8 (fieldY op2)
  let t := Target8.ofCode (fieldZ op2)
  match fieldX op2 with
  | 0 => rotTarget (.cb op2) (RotKind.ofCode (fieldY op2)) t s
  | 1 => bitTarget (.cb op2) y t s
  | 2 => resTarget (.cb op2) y t s
  | _ => setTarget (.cb op2) y t s

/-! ### The meanings, one for each row -/

/-- `NOP` (R360). -/
def exec_nop (s : State) : Result := nopOp (.base 0x00#8) s
/-- `STOP` (R362). -/
def exec_stop (_pad : Byte) (s : State) : Result := stopOp (.base 0x10#8) s
/-- `HALT` (R361). -/
def exec_halt (s : State) : Result := haltOp (.base 0x76#8) s
/-- `PREFIX CB` (R305). -/
def exec_prefix_cb (op2 : Byte) (s : State) : Result := prefixOp op2 s
/-- `ILLEGAL` (R365). -/
def exec_illegal_d3 (s : State) : Result := illegalOp 0xD3#8 s
/-- `ILLEGAL` (R365). -/
def exec_illegal_db (s : State) : Result := illegalOp 0xDB#8 s
/-- `ILLEGAL` (R365). -/
def exec_illegal_dd (s : State) : Result := illegalOp 0xDD#8 s
/-- `ILLEGAL` (R365). -/
def exec_illegal_e3 (s : State) : Result := illegalOp 0xE3#8 s
/-- `ILLEGAL` (R365). -/
def exec_illegal_e4 (s : State) : Result := illegalOp 0xE4#8 s
/-- `ILLEGAL` (R365). -/
def exec_illegal_eb (s : State) : Result := illegalOp 0xEB#8 s
/-- `ILLEGAL` (R365). -/
def exec_illegal_ec (s : State) : Result := illegalOp 0xEC#8 s
/-- `ILLEGAL` (R365). -/
def exec_illegal_ed (s : State) : Result := illegalOp 0xED#8 s
/-- `DI` (R363). -/
def exec_di (s : State) : Result := diOp (.base 0xF3#8) s
/-- `ILLEGAL` (R365). -/
def exec_illegal_f4 (s : State) : Result := illegalOp 0xF4#8 s
/-- `EI` (R364). -/
def exec_ei (s : State) : Result := eiOp (.base 0xFB#8) s
/-- `ILLEGAL` (R365). -/
def exec_illegal_fc (s : State) : Result := illegalOp 0xFC#8 s
/-- `ILLEGAL` (R365). -/
def exec_illegal_fd (s : State) : Result := illegalOp 0xFD#8 s

end Sys2Proof.Machine
end

