-- ==== Sys2Proof/Machine/Cpu.lean ====
section
/-! DEFINITION. The CPU step (60_exceptions.md R400) and the advance of the PPU and the Timer by its cost (00_scope.md R16). -/

namespace Sys2Proof.Machine

/-- The instruction at PC: the opcode byte, and the bytes its operands would be fetched from (00_scope.md R12). Reads have no
side effect, so the bytes beyond the instruction's own are not observable (20_memory.md R78). -/
def State.nextInstr (s : State) : Instr :=
  decodeBytes (s.readAt .opcode s.cpu.pc) (s.readAt .operand1 s.operandAddr) (s.readAt .operand2 (s.operandAddr + 1#16))

/-- The delayed effect of EI at the end of the step that executes the next instruction: `promote` is pendingIME as sampled
before the instruction (R400). -/
def State.promoteIme (promote : Bool) (s : State) : State :=
  if promote && s.cpu.pendingIme then { s with cpu := { s.cpu with ime := true, pendingIme := false } } else s

/-- The instruction path of a step (R400). -/
def State.runInstruction (s : State) : Result :=
  match exec s.nextInstr s with
  | .next t => .next (t.promoteIme s.cpu.pendingIme)
  | .fault r => .fault r
  | .refused r => .refused r

/-- An idle step while halted returns 4 and leaves PC (R400, 46_system.md R361). -/
def State.idle (s : State) : State := s.withCost idleCycles

/-- `halted <- false`, whatever IME is (R400, R415). -/
def State.wake (s : State) : State := { s with cpu := { s.cpu with halted := false } }

/-- The CPU step (R400): locked, idle, dispatch or instruction. -/
def State.cpuStep (s : State) : Result :=
  match s.cpu.locked with
  | some lock => .fault (.undefinedOpcode lock.byte lock.pc s)
  | none =>
    if s.cpu.halted ∧ s.pending = 0#5 then .next s.idle
    else
      match s.cpu.ime, lowestPending s.pending with
      | true, some source => .next (s.wake.takeInterrupt source)
      | _, _ => s.wake.runInstruction

/-- The PPU advances by `c` T-cycles (61_ppu.md R460). -/
def State.ppuAdvance (s : State) (c : Nat) : State := s.setPpuBus (s.ppuBus.run s.draws s.vram s.oam c)

/-- The Timer advances by `c` T-cycles (62_timer.md R522). -/
def State.timerAdvance (s : State) (c : Nat) : State := s.setTimerBus (s.timerBus.run c)

/-- PPU, then Timer, advance by the cost of the CPU step (00_scope.md R16); the next step draws its free values anew. -/
def State.advanceDevices (s : State) : State :=
  let s1 := (s.ppuAdvance s.cost).timerAdvance s.cost
  { s1 with draws := s1.draws + 1 }

/-- One system step without the host: the CPU step, then the devices; a step that raised advances no device (R16, R430). -/
def State.systemStep (s : State) : Result :=
  match s.cpuStep with
  | .next t => .next t.advanceDevices
  | .fault r => .fault r
  | .refused r => .refused r

end Sys2Proof.Machine
end

