-- ==== Sys2Proof/Machine/Step.lean ====
section
/-! DEFINITION. One system step with the host's turn before it (00_scope.md R16), the placing of an instruction word where the
step fetches, and the host's loop over a frame. -/

namespace Sys2Proof.Machine

/-- One step: the host's turn, the CPU step, the PPU and the Timer (R16, R400). -/
def step (s : State) : Host.Outcome State Fault Refusal := s.hostTurn.systemStep

/-- The cell of the cartridge image behind an address of 0x0000 to 0x7FFF (20_memory.md R80). -/
def State.romOffset (s : State) (a : Word) : Nat :=
  if a.toNat < 0x4000 then a.toNat else s.effRomBank * 0x4000 + (a.toNat - 0x4000)

/-- The image with a byte placed behind a ROM address. -/
def State.placeRom (s : State) (a : Word) (v : Byte) : State := { s with rom := s.rom.write (s.romOffset a) v }

/-- The address an instruction is placed at: PC where its three bytes lie in ROM, else the reset entry point. -/
def State.placeAddr (s : State) : Word := if s.cpu.pc.toNat + 2 < 0x8000 then s.cpu.pc else 0x0100#16

/-- `s` made to fetch at its next step: not locked, halted or dispatching, no HALT-bug latch, no host action before it
(log entry 15). -/
def State.readyToFetch (s : State) : State :=
  { s with
    cpu :=
      { s.cpu with
        pc := s.placeAddr
        locked := none
        halted := false
        haltBug := false
        ime := s.cpu.ime && decide (s.pending = 0#5) }
    inputs := s.inputs.map fun _ => [] }

/-- `s` with an instruction word, numbered as opcode_table.json numbers it, stored where the next step fetches. -/
def State.withFetchWord (s : State) (nbits w : Nat) : State :=
  let bytes := tableWordBytes nbits w
  let t := s.readyToFetch
  ((t.placeRom t.cpu.pc bytes.1).placeRom (t.cpu.pc + 1#16) bytes.2.1).placeRom (t.cpu.pc + 2#16) bytes.2.2

/-- `stepFrame()`: system steps until frameReady() returns true after one, at most `fuel` of them (61_ppu.md R464). -/
def stepFrame : Nat → State → Host.Outcome State Fault Refusal
  | 0, s => .next s
  | n + 1, s =>
    match step s with
    | .next t => if t.frameReady.1 then .next t.frameReady.2 else stepFrame n t
    | .fault r => .fault r
    | .refused r => .refused r

end Sys2Proof.Machine
end

