-- ==== Sys2Proof/Safety.lean ====
section
/-! DEFINITION. What a sound state is: the invariants the spec states of the machine (10_state.md R22, 21_mmu_io_mbc1.md R111,
61_ppu.md R462 and R498, 62_timer.md R522) and the model's canonical forms. -/

namespace Sys2Proof.Machine

/-- `F & 0x0F = 0` (R22). -/
abbrev Cpu.flagsSound (c : Cpu) : Prop := c.f &&& 0x0F#8 = 0x00#8

/-- Every memory array is in canonical form and lies within its size (R31). -/
def State.memorySound (s : State) : Prop :=
  (s.rom.wf ∧ s.rom.within (s.params.romBanks * 0x4000)) ∧ (s.extRam.wf ∧ s.extRam.within s.params.ramBytes) ∧
    (s.vram.wf ∧ s.vram.within 0x2000) ∧ (s.wram.wf ∧ s.wram.within 0x2000) ∧ (s.oam.wf ∧ s.oam.within 160) ∧
    (s.hram.wf ∧ s.hram.within 127) ∧ (s.io.wf ∧ s.io.within ioSize)

/-- `bank1` is never 0 (R111). -/
abbrev Mbc1.sound (m : Mbc1) : Prop := m.bank1 ≠ 0#5

/-- The position within a line that a mode allows, whatever writes to LY have been made: mode 2 is 0..79, mode 3 is 80..251,
mode 0 is 252..455, mode 1 anywhere (R461, R462). -/
def PpuMode.allows (m : PpuMode) (modeCycles : Nat) : Prop :=
  match m with
  | .oamSearch => modeCycles < 80
  | .pixelTransfer => 80 ≤ modeCycles ∧ modeCycles < 252
  | .hblank => 252 ≤ modeCycles
  | .vblank => True

/-- The PPU's invariant, LY writes included: the ranges of `modeCycles` and `ly`, the coincidence flag, the mode's place in the
line, and that lines 144 to 153 are in mode 1 (R462, R498). -/
structure Ppu.Sound (p : Ppu) : Prop where
  cycles_lt : p.modeCycles < 456
  ly_lt : p.ly.toNat < 154
  coincidence_eq : p.coincidence = decide (p.ly = p.lyc)
  mode_place : p.mode.allows p.modeCycles
  vblank_lines : 144 ≤ p.ly.toNat → p.mode = .vblank

/-- The mode is the function of (ly, modeCycles) of the table of R462: the invariant of runs without a write to LY. -/
def Ppu.modeIsOfPosition (p : Ppu) : Prop :=
  p.mode =
    if 144 ≤ p.ly.toNat then PpuMode.vblank
    else if p.modeCycles < 80 then .oamSearch
    else if p.modeCycles < 252 then .pixelTransfer
    else .hblank

/-- `timaAcc` is below 1024 (R37). -/
abbrev Timer.sound (t : Timer) : Prop := t.timaAcc < 1024

/-- The geometry and table of an instance: ROM_BANKS from 2 to 128, a power of two; RAM_BYTES 0, 2048, 8192 or 32768; every
cycle entry a positive multiple of 4 (00_scope.md R6). -/
def Params.sound (p : Params) : Prop :=
  (∃ k, 1 ≤ k ∧ k ≤ 7 ∧ p.romBanks = 2 ^ k) ∧
    (p.ramBytes = 0 ∨ p.ramBytes = 2048 ∨ p.ramBytes = 8192 ∨ p.ramBytes = 32768) ∧
    ∀ entry ∈ p.cycles, (0 < entry.taken ∧ entry.taken % 4 = 0) ∧ (0 < entry.untaken ∧ entry.untaken % 4 = 0)

/-- The sound states: what every step keeps. -/
structure State.Sound (s : State) : Prop where
  flags : s.cpu.flagsSound
  memory : s.memorySound
  mbc : s.mbc.sound
  ppu : s.ppu.Sound
  timer : s.timer.sound
  params : s.params.sound

/-- `t` is `s` but for the CPU and the model's cost field: every array, device and parameter is unchanged. -/
def State.sameOutsideCpu (s t : State) : Prop := t = { s with cpu := t.cpu, cost := t.cost }

/-- A safe run: no step of it stops with a fault or a refusal. -/
def SafeRun (n : Nat) (s : State) : Prop := ∃ t, Sys2Proof.core.run n s = .next t

end Sys2Proof.Machine
end

