-- ==== Sys2Proof/Certificates/Slice0/Obligations.lean ====
section
/-! DEFINITION. The statements about the machine, and the few terms they share. Each docstring names the rules of spec/ it
formalises; a clause that rests on a passage the spec marks as its own decision, general knowledge or a derivation says so. -/

namespace Sys2Proof.Claims

open Sys2Proof.Machine

/-! ### Terms -/

/-- PC after the `len` bytes of the instruction at PC: each fetch advances PC by one, but the opcode fetch does not when the
HALT-bug latch is set (00_scope.md R12, 10_state.md R24). -/
def pcAfter (s : State) (len : Nat) : Word := s.cpu.pc + BitVec.ofNat 16 (if s.cpu.haltBug then len - 1 else len)

/-- The hidden CPU state (R27) of an ordinary instruction: all of it kept, the HALT-bug latch consumed by the opcode fetch. -/
structure HiddenKept (s t : State) : Prop where
  ime : t.cpu.ime = s.cpu.ime
  pendingIme : t.cpu.pendingIme = s.cpu.pendingIme
  halted : t.cpu.halted = s.cpu.halted
  locked : t.cpu.locked = s.cpu.locked
  haltBug : t.cpu.haltBug = false

/-- Every 8-bit register with a code, but those of `out`, is kept. -/
def RegsKept (out : List Reg8) (s t : State) : Prop := ∀ r : Reg8, r ∉ out → t.reg r = s.reg r

/-- F holds these four flags, its other bits 0 (R22). -/
structure FlagsAre (t : State) (z n h c : Bool) : Prop where
  z : t.flagZ = z
  n : t.flagN = n
  h : t.flagH = h
  c : t.flagC = c
  rest : t.cpu.f &&& 0x0F#8 = 0x00#8

/-- Nothing outside the CPU changes, so every address reads as before. -/
def NothingStored (s t : State) : Prop :=
  s.sameOutsideCpu t ∧ ∀ (site : ReadSite) (b : Word), t.readAt site b = s.readAt site b

/-- A write to `a` may change what `b` reads as (20_memory.md R71, R78, R82): the byte itself and its echo; for the bank
registers the switched windows; for LY and LYC also STAT and IF; for DMA also OAM. -/
def touches (a b : Word) : Bool :=
  let n := a.toNat
  let m := b.toNat
  let romWindow : Bool := decide (0x4000 ≤ m ∧ m < 0x8000)
  let ramWindow : Bool := decide (0xA000 ≤ m ∧ m < 0xC000)
  if n < 0x2000 then ramWindow
  else if n < 0x4000 then romWindow
  else if n < 0x8000 then romWindow || ramWindow
  else if 0xC000 ≤ n ∧ n < 0xFE00 then
    decide (0xC000 ≤ m ∧ m < 0xFE00 ∧ (m - 0xC000) % 0x2000 = (n - 0xC000) % 0x2000)
  else if n = 0xFF44 ∨ n = 0xFF45 then decide (m = n ∨ m = 0xFF41 ∨ m = 0xFF0F)
  else if n = 0xFF46 then decide (m = n ∨ (0xFE00 ≤ m ∧ m < 0xFEA0))
  else decide (m = n)

/-- The one effect outside the CPU is the MMU write of `v` at `a` (R81), and every address it does not touch reads as
before. -/
def Stores (s t : State) (a : Word) (v : Byte) : Prop :=
  (s.write a v).sameOutsideCpu t ∧
    ∀ (site : ReadSite) (b : Word), touches a b = false → t.readAt site b = s.readAt site b

/-- The one effect outside the CPU is the MMU write of `v` at `a` and then of `v'` at `a'`. -/
def StoresTwo (s t : State) (a : Word) (v : Byte) (a' : Word) (v' : Byte) : Prop :=
  ((s.write a v).write a' v').sameOutsideCpu t ∧
    ∀ (site : ReadSite) (b : Word), touches a b = false → touches a' b = false → t.readAt site b = s.readAt site b

/-- Push16 of `w` as seen outside the CPU (00_scope.md R13): the high byte to SP−1, then the low byte to SP−2. -/
def Pushes (s t : State) (w : Word) : Prop :=
  StoresTwo s t (s.cpu.sp - 1#16) (hiByte w) (s.cpu.sp - 2#16) (loByte w)

/-- The word Pop16 reads: low byte at SP, high byte at SP+1 (R13). -/
def poppedWord (s : State) : Word := wordOf (s.readAt .dataHigh (s.cpu.sp + 1#16)) (s.readAt .data s.cpu.sp)

/-- The three operand forms of an ALU row: a register, the byte at HL, an immediate. -/
inductive AluForm where
  | reg (r : Reg8)
  | atHL
  | imm (n : Byte)
  deriving DecidableEq, Repr

/-- The instruction of an ALU operation and operand form. -/
def AluForm.instr (op : AluOp) : AluForm → Instr
  | .reg r => .aluReg op r
  | .atHL => .aluMem op
  | .imm n => .aluImm op n

/-- The operand as a number. -/
def AluForm.operand (s : State) : AluForm → Nat
  | .reg r => (s.reg r).toNat
  | .atHL => (s.read s.hl).toNat
  | .imm n => n.toNat

/-- The length in bytes. -/
def AluForm.len : AluForm → Nat
  | .imm _ => 2
  | _ => 1

/-- The frame of an instruction of `len` bytes that writes only registers of `out`, and F as said beside it. -/
structure RegisterFrame (len : Nat) (out : List Reg8) (s t : State) : Prop where
  regs : RegsKept out s t
  sp : t.cpu.sp = s.cpu.sp
  pc : t.cpu.pc = pcAfter s len
  hidden : HiddenKept s t
  stored : NothingStored s t

/-- The CPU's side of the frame of an instruction of `len` bytes that stores: registers of `out` apart, all is kept. -/
structure StoreFrame (len : Nat) (out : List Reg8) (s t : State) : Prop where
  regs : RegsKept out s t
  f : t.cpu.f = s.cpu.f
  pc : t.cpu.pc = pcAfter s len
  hidden : HiddenKept s t

/-- A condition code as a test of F (45_control.md R341). -/
def holds (cc : Cond) (s : State) : Bool :=
  match cc with
  | .nz => s.cpu.f.getLsbD 7 == false
  | .z => s.cpu.f.getLsbD 7
  | .nc => s.cpu.f.getLsbD 4 == false
  | .c => s.cpu.f.getLsbD 4

/-- The result of `Shift` (44_rotate_shift_bit.md R300) in numbers. -/
def shiftNat (kind : RotKind) (v cin : Nat) : Nat :=
  match kind with
  | .rlc => v * 2 % 256 + v / 128
  | .rrc => v / 2 + v % 2 * 128
  | .rl => v * 2 % 256 + cin
  | .rr => v / 2 + cin * 128
  | .sla => v * 2 % 256
  | .sra => v / 2 + v / 128 * 128
  | .swap => v % 16 * 16 + v / 16
  | .srl => v / 2

/-- The carry out of `Shift` (R300) in numbers. -/
def shiftOut (kind : RotKind) (v : Nat) : Bool :=
  match kind with
  | .rlc | .rl | .sla => decide (128 ≤ v)
  | .rrc | .rr | .sra | .srl => decide (v % 2 = 1)
  | .swap => false

/-- The packed decimal byte of a number below 100. -/
def bcd (x : Nat) : Byte := BitVec.ofNat 8 (x / 10 * 16 + x % 10)

/-- An address that holds a plain RAM byte a CPU write reaches now: VRAM and OAM unless blocked, external RAM if enabled and
present, WRAM and its echo, HRAM, and IE (R71, R80, R81). -/
def ramAt (s : State) (a : Word) : Bool :=
  match regionOf a with
  | .vram _ => !(s.params.blocking && s.ppu.mode == .pixelTransfer)
  | .extRam off => (s.extRamOffset off).isSome
  | .wram _ | .hram _ | .ie => true
  | .oam _ => !(s.params.blocking && (s.ppu.mode == .oamSearch || s.ppu.mode == .pixelTransfer))
  | _ => false

/-- An instruction completes and its cost is `n` T-cycles. -/
def Costs (s : State) (i : Instr) (n : Nat) : Prop := ∃ t, exec i s = .next t ∧ t.cost = n

/-- The index of pixel `px` of the tile row at offset `row` of VRAM: plane 1, the second byte, is the high bit (61_ppu.md
R481). -/
def planePixel (vram : Ram) (row px : Nat) : Nat :=
  (vram.read .vram (row + 1)).toNat / 2 ^ (7 - px) % 2 * 2 + (vram.read .vram row).toNat / 2 ^ (7 - px) % 2

/-- The index at (x, y) of the 32 × 32 tile map at offset `map` of VRAM, LCDC bit 4 choosing the tile data (R481, R482). -/
def mapPixel (vram : Ram) (p : Ppu) (map x y : Nat) : Nat :=
  let tile := (vram.read .vram (map + y / 8 * 32 + x / 8)).toNat
  let base := if p.lcdc.getLsbD 4 then tile * 16 else if tile < 128 then 0x1000 + tile * 16 else tile * 16
  planePixel vram (base + y % 8 * 2) (x % 8)

/-- The index of the layer under the sprites at a column: 0 with the background off; the window where it covers; else the
background (R482, R486). -/
def layerPixel (vram : Ram) (p : Ppu) (col : Nat) : Nat :=
  if p.lcdc.getLsbD 0 = false then 0
  else if p.lcdc.getLsbD 5 = true ∧ p.wy.toNat ≤ p.ly.toNat ∧ p.wx.toNat ≤ 166 ∧ p.wx.toNat ≤ col + 7 then
    mapPixel vram p (if p.lcdc.getLsbD 6 then 0x1C00 else 0x1800) (col + 7 - p.wx.toNat) p.windowLine
  else
    mapPixel vram p (if p.lcdc.getLsbD 3 then 0x1C00 else 0x1800) ((p.scx.toNat + col) % 256)
      ((p.scy.toNat + p.ly.toNat) % 256)

/-- The shade of that layer: through BGP, and 0 with the background off (R482, R483). -/
def layerShade (vram : Ram) (p : Ppu) (col : Nat) : Nat :=
  if p.lcdc.getLsbD 0 then p.bgp.toNat / 4 ^ layerPixel vram p col % 4 else 0

/-- The index of sprite `k` at a column it covers on a line it is on: attribute bit 6 flips the row, bit 5 the column; the two
tiles of an 8 × 16 sprite are a pair (R491). -/
def spritePixel (vram oam : Ram) (p : Ppu) (k col : Nat) : Nat :=
  let height := if p.lcdc.getLsbD 2 then 16 else 8
  let attr := oam.read .oam (4 * k + 3)
  let row := p.ly.toNat + 16 - (oam.read .oam (4 * k)).toNat
  let px := col + 8 - (oam.read .oam (4 * k + 1)).toNat
  let number := (oam.read .oam (4 * k + 2)).toNat
  let tile := if p.lcdc.getLsbD 2 then number / 2 * 2 else number
  planePixel vram (tile * 16 + (if attr.getLsbD 6 then height - 1 - row else row) * 2) (if attr.getLsbD 5 then 7 - px else px)

/-- The CPU runs an instruction in its next step: it is not locked, not idling and does not dispatch (60_exceptions.md
R400). -/
structure Runs (s : State) : Prop where
  unlocked : s.cpu.locked = none
  awake : s.cpu.halted = true → s.pending ≠ 0#5
  undisturbed : s.cpu.ime = true → s.pending = 0#5

end Sys2Proof.Claims

open Sys2Proof Sys2Proof.Machine Sys2Proof.Claims

/-! ### Decoding and the step -/

/-- A STEP RUNS THE DECODED INSTRUCTION (60_exceptions.md R400, 00_scope.md R12, R16). After the host's turn, when the CPU
runs an instruction and the bytes at PC decode to `i`, the step is `exec i`, then the EI promotion, then the devices; what
`exec` raises, the step raises. `wake` clears `halted`; `operandAddr` is the address of the first operand byte. The EI promotion is
the spec's decision D1, the host's turn first and the PPU before the Timer D32 (log entries 17 and 7); that both operand bytes are
read up front is log entry 19. -/
def Obligations.StepRunsTheDecodedInstruction : Prop :=
  ∀ (s : State) (i : Instr) (rest : List Byte), Runs s.hostTurn →
    decode [s.hostTurn.readAt .opcode s.hostTurn.cpu.pc, s.hostTurn.readAt .operand1 s.hostTurn.operandAddr,
      s.hostTurn.readAt .operand2 (s.hostTurn.operandAddr + 1#16)] = .ok (i, rest) →
    i.wellFormed = true →
    (∀ t, exec i s.hostTurn.wake = .next t →
      Sys2Proof.Machine.step s = .next (t.promoteIme s.hostTurn.cpu.pendingIme).advanceDevices) ∧
    (∀ r, exec i s.hostTurn.wake = .fault r → Sys2Proof.Machine.step s = .fault r) ∧
    (∀ r, exec i s.hostTurn.wake = .refused r → Sys2Proof.Machine.step s = .refused r)

/-- Words written out from the encodings of the spec decode to their instructions (30_encoding.md R161, R169, R170; the bytes
00, C3 50 01, 3E 42, C6 01, 3C and 76 are the source's, the others general knowledge of the spec: G1, G2, log entry 16). -/
def Obligations.DecodesWordsOfTheSpec : Prop :=
  decodeBytes 0b00000000#8 0#8 0#8 = .nop ∧ decodeBytes 0xC3#8 0x50#8 0x01#8 = .jp_n16 0x0150#16 ∧
    decodeBytes 0x3E#8 0x42#8 0#8 = .ld_a_n8 0x42#8 ∧ decodeBytes 0xC6#8 0x01#8 0#8 = .add_a_n8 0x01#8 ∧
    decodeBytes 0x3C#8 0#8 0#8 = .inc_a ∧ decodeBytes 0x76#8 0#8 0#8 = .halt ∧
    decodeBytes 0b01000001#8 0#8 0#8 = .ld_b_c ∧ decodeBytes 0x08#8 0x00#8 0xC1#8 = .ld_atN16_sp 0xC100#16 ∧
    decodeBytes 0xF5#8 0#8 0#8 = .push_af ∧ decodeBytes 0x29#8 0#8 0#8 = .add_hl_hl ∧
    decodeBytes 0x38#8 0xFC#8 0#8 = .jr_c_e8 0xFC#8 ∧ decodeBytes 0xE0#8 0x46#8 0#8 = .ldh_atN8_a 0x46#8 ∧
    decodeBytes 0xCB#8 0x65#8 0#8 = .bit_4_l ∧ decodeBytes 0xCB#8 0x36#8 0#8 = .swap_atHL ∧
    decodeBytes 0x10#8 0x3C#8 0#8 = .stop 0x3C#8 ∧ decodeBytes 0xDD#8 0#8 0#8 = .illegal_dd

/-- DECODE AND ENCODE AGREE: decoding the bytes of any well-formed instruction, with every operand at every value, in front of
any bytes, gives the instruction back and leaves the bytes after it (R160 to R173). -/
def Obligations.DecodeGivesBackTheEncoded : Prop :=
  ∀ i : Instr, i.wellFormed = true → ∀ rest : List Byte, decode (encode i ++ rest) = .ok (i, rest)

/-- The other direction, and totality (R172): what the decoder accepts is a well-formed instruction whose encoding is exactly
the bytes taken, and any three bytes begin with an instruction, the one the step's decoder reads. -/
def Obligations.DecodedBytesAreTheEncoding : Prop :=
  (∀ (bytes rest : List Byte) (i : Instr), decode bytes = .ok (i, rest) →
    i.wellFormed = true ∧ bytes = encode i ++ rest) ∧
  ∀ (b0 b1 b2 : Byte) (rest : List Byte), ∃ after : List Byte,
    decode (b0 :: b1 :: b2 :: rest) = .ok (decodeBytes b0 b1 b2, after)

/-- One system step (00_scope.md R16): the host's turn, the CPU step, then the PPU and the Timer advance by the cost the CPU
step returned. The order of PPU and Timer is the spec's decision D32 (log entries 7 and 17). -/
def Obligations.SystemStepAdvancesTheDevices : Prop :=
  ∀ s t : State, s.hostTurn.cpuStep = .next t →
    ∃ u : State, Sys2Proof.Machine.step s = .next u ∧ u.cpu = t.cpu ∧ u.cost = t.cost ∧
      u.ppu = (PpuBus.run t.draws t.vram t.oam t.cost { ppu := t.ppu, iflag := t.iflag }).ppu ∧
      u.timer = (TimerBus.run t.cost
        { timer := t.timer, iflag := (PpuBus.run t.draws t.vram t.oam t.cost { ppu := t.ppu, iflag := t.iflag }).iflag }).timer ∧
      u.iflag = (TimerBus.run t.cost
        { timer := t.timer, iflag := (PpuBus.run t.draws t.vram t.oam t.cost { ppu := t.ppu, iflag := t.iflag }).iflag }).iflag ∧
      u = { t with ppu := u.ppu, timer := u.timer, iflag := u.iflag, draws := u.draws }

/-! ### Reset and the invariants -/

/-- R26: the CPU registers after reset. -/
def Obligations.ResetLoadsTheBootDefaults : Prop :=
  State.reset.af = 0x01B0#16 ∧ State.reset.bc = 0x0013#16 ∧ State.reset.de = 0x00D8#16 ∧ State.reset.hl = 0x014D#16 ∧
    State.reset.cpu.sp = 0xFFFE#16 ∧ State.reset.cpu.pc = 0x0100#16 ∧
    State.reset.cpu.a = 0x01#8 ∧ FlagsAre State.reset true false true true ∧ State.reset.cpu.b = 0x00#8 ∧
    State.reset.cpu.c = 0x13#8 ∧ State.reset.cpu.d = 0x00#8 ∧ State.reset.cpu.e = 0xD8#8 ∧ State.reset.cpu.h = 0x01#8 ∧
    State.reset.cpu.l = 0x4D#8

/-- The host's reset (70_reset_and_hazards.md R540) puts every register at its reset value whatever it held, in literals (R26, R27,
R29, R30, R34 to R38), the CPU and the PPU as `State.reset` has them, and keeps the cartridge and the parameters. Values beside
the source's are the spec's decisions D6 to D9, D13, D15, D21, D25, D38 (log entry 3); what RAM holds is log entry 13. -/
def Obligations.HostResetRestoresTheDefaults : Prop :=
  ∀ (s : State) (ram : RamImage),
    (s.hostReset ram).cpu =
      { a := 0x01#8, f := 0xB0#8, b := 0x00#8, c := 0x13#8, d := 0x00#8, e := 0xD8#8, h := 0x01#8, l := 0x4D#8,
        sp := 0xFFFE#16, pc := 0x0100#16, ime := false, pendingIme := false, halted := false, haltBug := false,
        locked := none } ∧
    (s.hostReset ram).ie = 0x00#8 ∧ (s.hostReset ram).iflag = 0#5 ∧
    (s.hostReset ram).mbc = { ramEnabled := false, bank1 := 1#5, bank2 := 0#2, mode1 := false } ∧
    (s.hostReset ram).joypad = { select := 0b11#2, pressed := 0#8 } ∧
    (s.hostReset ram).serial.sb = 0x00#8 ∧ (s.hostReset ram).serial.sc = 0x00#8 ∧
    (s.hostReset ram).timer = { divCounter := 0#16, tima := 0#8, tma := 0#8, tac := 0#8, timaAcc := 0 } ∧
    (s.hostReset ram).ppu =
      { modeCycles := 0, ly := 0x00#8, mode := .oamSearch, coincidence := true, statEnable := 0#4, lcdc := 0x91#8,
        scy := 0x00#8, scx := 0x00#8, lyc := 0x00#8, dma := 0xFF#8, bgp := 0xFC#8, obp0 := 0xFF#8, obp1 := 0xFF#8,
        wy := 0x00#8, wx := 0x00#8, windowLine := 0, frameReadyLatch := false,
        frameBuffer := Vector.replicate 144 (Vector.replicate 160 0#2) } ∧
    State.reset.cpu = (s.hostReset ram).cpu ∧ State.reset.ppu = (s.hostReset ram).ppu ∧
    (s.hostReset ram).rom = s.rom ∧ (s.hostReset ram).params = s.params

/-- `State.Sound` (Safety.lean) holds after reset. It rests on reset values the spec decides (D8, D9 and D15, log entry 3) and on the
parameters of an instance without a cartridge (log entry 5). -/
def Obligations.ResetIsSound : Prop := State.reset.Sound

/-- EVERY STEP KEEPS the machine sound, from every sound state: F's low nibble 0 (R22), `bank1` not 0 (R111), the PPU's
ranges, coincidence and mode (R462, R498), `timaAcc` below 1024 (R37), every memory array canonical and within its size, and
the parameters legal (R6). What a fault leaves is sound too. -/
def Obligations.StepKeepsSoundness : Prop :=
  ∀ s : State, s.Sound →
    (∀ t, Sys2Proof.Machine.step s = .next t → t.Sound) ∧
    (∀ byte pc left, Sys2Proof.Machine.step s = .fault (.undefinedOpcode byte pc left) → left.Sound)

/-- R22: the flags stand in bits 7 to 4 of F, and its low nibble is 0 after reset, after every step and whatever POP AF
pops. -/
def Obligations.FlagNibbleStaysZero : Prop :=
  (∀ s : State, s.flagZ = s.cpu.f.getLsbD 7 ∧ s.flagN = s.cpu.f.getLsbD 6 ∧ s.flagH = s.cpu.f.getLsbD 5 ∧
    s.flagC = s.cpu.f.getLsbD 4) ∧
  State.reset.cpu.f &&& 0x0F#8 = 0x00#8 ∧
  (∀ s t : State, s.cpu.f &&& 0x0F#8 = 0x00#8 → Sys2Proof.Machine.step s = .next t → t.cpu.f &&& 0x0F#8 = 0x00#8) ∧
  ∀ s : State, ∃ t, exec .pop_af s = .next t ∧ t.cpu.f = loByte (poppedWord s) &&& 0xF0#8

/-- No step changes the cartridge image or the parameters of the instance: stores into 0x0000 to 0x7FFF never change ROM
(10_state.md R31, 20_memory.md R81, R559). -/
def Obligations.NoStepChangesTheCartridge : Prop :=
  ∀ s t : State, Sys2Proof.Machine.step s = .next t → t.rom = s.rom ∧ t.params = s.params

/-! ### Loads -/

/-- The byte loads. LD A,(BC), LD A,(DE), LD A,(nn), LDH A,(C), LDH A,(n), LD A,(HL+), LD A,(HL-): R205, R206, R209, R211, R213,
R216, R218: A holds the byte read; HL+ and HL- also step HL. LD r,r' (49 rows), LD r,n (7), LD r,(HL) (7): R200, R201, R202: the
destination holds the source, nothing else changes; memory is read at the old HL. The addresses of LDH and the step of HL+ and HL-
are general knowledge of the spec (G12, log entry 16), the wrap of HL its decision D39 (log entry 17). -/
def Obligations.ByteLoads : Prop :=
  (∀ s : State,
      (∃ t, exec .ld_a_atBC s = .next t ∧ t.cpu.a = s.read s.bc ∧ t.cpu.f = s.cpu.f ∧ RegisterFrame 1 [.a] s t) ∧
      (∃ t, exec .ld_a_atDE s = .next t ∧ t.cpu.a = s.read s.de ∧ t.cpu.f = s.cpu.f ∧ RegisterFrame 1 [.a] s t) ∧
      (∀ nn : Word, ∃ t, exec (.ld_a_atN16 nn) s = .next t ∧ t.cpu.a = s.read nn ∧ t.cpu.f = s.cpu.f ∧
        RegisterFrame 3 [.a] s t) ∧
      (∃ t, exec .ldh_a_atC s = .next t ∧ t.cpu.a = s.read (BitVec.ofNat 16 (0xFF00 + s.cpu.c.toNat)) ∧
        t.cpu.f = s.cpu.f ∧ RegisterFrame 1 [.a] s t) ∧
      (∀ n : Byte, ∃ t, exec (.ldh_a_atN8 n) s = .next t ∧ t.cpu.a = s.read (BitVec.ofNat 16 (0xFF00 + n.toNat)) ∧
        t.cpu.f = s.cpu.f ∧ RegisterFrame 2 [.a] s t) ∧
      (∃ t, exec .ld_a_atHLI s = .next t ∧ t.cpu.a = s.read s.hl ∧ t.hl = s.hl + 1#16 ∧ t.cpu.f = s.cpu.f ∧
        RegisterFrame 1 [.a, .h, .l] s t) ∧
      (∃ t, exec .ld_a_atHLD s = .next t ∧ t.cpu.a = s.read s.hl ∧ t.hl = s.hl - 1#16 ∧ t.cpu.f = s.cpu.f ∧
        RegisterFrame 1 [.a, .h, .l] s t)) ∧
  (∀ (dst src : Reg8) (s : State), ∃ t, exec (.ldRegReg dst src) s = .next t ∧ t.reg dst = s.reg src ∧
    t.cpu.f = s.cpu.f ∧ RegisterFrame 1 [dst] s t) ∧
  (∀ (dst : Reg8) (n : Byte) (s : State), ∃ t, exec (.ldRegImm dst n) s = .next t ∧ t.reg dst = n ∧
    t.cpu.f = s.cpu.f ∧ RegisterFrame 2 [dst] s t) ∧
  ∀ (dst : Reg8) (s : State), ∃ t, exec (.ldRegMem dst) s = .next t ∧ t.reg dst = s.read s.hl ∧
    t.cpu.f = s.cpu.f ∧ RegisterFrame 1 [dst] s t

/-- LD (HL),r (7 rows), LD (HL),n, LD (BC),A, LD (DE),A, LD (nn),A, LDH (C),A, LDH (n),A, LD (HL+),A, LD (HL-),A: R203, R204,
R207, R208, R210, R212, R214, R215, R217. The one effect outside the CPU is the MMU write of the byte at the address named. The addresses of
LDH and the step of HL+ and HL- are general knowledge of the spec (G12, log entry 16), the wrap of HL its decision D39 (log entry
17). -/
def Obligations.ByteStores : Prop :=
  ∀ s : State,
    (∀ src : Reg8, ∃ t, exec (.ldMemReg src) s = .next t ∧ Stores s t s.hl (s.reg src) ∧ t.cpu.sp = s.cpu.sp ∧
      StoreFrame 1 [] s t) ∧
    (∀ n : Byte, ∃ t, exec (.ld_atHL_n8 n) s = .next t ∧ Stores s t s.hl n ∧ t.cpu.sp = s.cpu.sp ∧ StoreFrame 2 [] s t) ∧
    (∃ t, exec .ld_atBC_a s = .next t ∧ Stores s t s.bc s.cpu.a ∧ t.cpu.sp = s.cpu.sp ∧ StoreFrame 1 [] s t) ∧
    (∃ t, exec .ld_atDE_a s = .next t ∧ Stores s t s.de s.cpu.a ∧ t.cpu.sp = s.cpu.sp ∧ StoreFrame 1 [] s t) ∧
    (∀ nn : Word, ∃ t, exec (.ld_atN16_a nn) s = .next t ∧ Stores s t nn s.cpu.a ∧ t.cpu.sp = s.cpu.sp ∧
      StoreFrame 3 [] s t) ∧
    (∃ t, exec .ldh_atC_a s = .next t ∧ Stores s t (BitVec.ofNat 16 (0xFF00 + s.cpu.c.toNat)) s.cpu.a ∧
      t.cpu.sp = s.cpu.sp ∧ StoreFrame 1 [] s t) ∧
    (∀ n : Byte, ∃ t, exec (.ldh_atN8_a n) s = .next t ∧ Stores s t (BitVec.ofNat 16 (0xFF00 + n.toNat)) s.cpu.a ∧
      t.cpu.sp = s.cpu.sp ∧ StoreFrame 2 [] s t) ∧
    (∃ t, exec .ld_atHLI_a s = .next t ∧ Stores s t s.hl s.cpu.a ∧ t.hl = s.hl + 1#16 ∧ t.cpu.sp = s.cpu.sp ∧
      StoreFrame 1 [.h, .l] s t) ∧
    (∃ t, exec .ld_atHLD_a s = .next t ∧ Stores s t s.hl s.cpu.a ∧ t.hl = s.hl - 1#16 ∧ t.cpu.sp = s.cpu.sp ∧
      StoreFrame 1 [.h, .l] s t)

/-- LD rr,nn (4 rows), LD SP,HL, LD HL,SP+e: R230, R232, R235. The flags of LD HL,SP+e are the carries of the low bytes as
unsigned numbers (general knowledge of the spec: G7, log entry 16). -/
def Obligations.PairLoads : Prop :=
  ∀ s : State,
    (∀ (p : RegPair) (nn : Word), ∃ t, exec (.ldPairImm p nn) s = .next t ∧ t.pair p = nn ∧
      (∀ q : RegPair, q ≠ p → t.pair q = s.pair q) ∧ t.cpu.a = s.cpu.a ∧ t.cpu.f = s.cpu.f ∧ t.cpu.pc = pcAfter s 3 ∧
      HiddenKept s t ∧ NothingStored s t) ∧
    (∃ t, exec .ld_sp_hl s = .next t ∧ t.cpu.sp = s.hl ∧ RegsKept [] s t ∧ t.cpu.f = s.cpu.f ∧ t.cpu.pc = pcAfter s 1 ∧
      HiddenKept s t ∧ NothingStored s t) ∧
    (∀ e : Byte, ∃ t, exec (.ld_hl_spE8 e) s = .next t ∧ (t.hl.toNat : Int) = (s.cpu.sp.toNat + e.toInt) % 65536 ∧
      FlagsAre t false false (decide (15 < s.cpu.sp.toNat % 16 + e.toNat % 16))
        (decide (255 < s.cpu.sp.toNat % 256 + e.toNat)) ∧
      RegisterFrame 2 [.h, .l] s t)

/-- PUSH rr (4 rows), LD (nn),SP, POP rr (4 rows): R233, R231, R234, by Push16 and Pop16 of R13. The halves of AF on the stack and
LD (nn),SP are general knowledge of the spec (G9, G12, log entry 16), the wrap of SP and of nn + 1 its decision D39 (log entry 17). -/
def Obligations.StackMoves : Prop :=
  ∀ s : State,
    (∀ p : StackPair, ∃ t, exec (.push p) s = .next t ∧ Pushes s t (s.stackPair p) ∧ t.cpu.sp = s.cpu.sp - 2#16 ∧
      StoreFrame 1 [] s t) ∧
    (∀ nn : Word, ∃ t, exec (.ld_atN16_sp nn) s = .next t ∧
      StoresTwo s t nn (loByte s.cpu.sp) (nn + 1#16) (hiByte s.cpu.sp) ∧ t.cpu.sp = s.cpu.sp ∧ StoreFrame 3 [] s t) ∧
    (∀ p : StackPair, ∃ t, exec (.pop p) s = .next t ∧
      t.stackPair p = (if p = .af then poppedWord s &&& 0xFFF0#16 else poppedWord s) ∧
      (∀ q : StackPair, q ≠ p → t.stackPair q = s.stackPair q) ∧ t.cpu.sp = s.cpu.sp + 2#16 ∧ t.cpu.pc = pcAfter s 1 ∧
      HiddenKept s t ∧ NothingStored s t)

/-- "`push(x); pop() == x` and SP is restored" (R234), for every pair, where both stack bytes are plain RAM; for AF, where F's
low nibble is 0, as it always is (R22). The halves of AF on the stack are general knowledge of the spec (G9, log entry 16), the wrap
of SP its decision D39 (log entry 17). -/
def Obligations.PopReturnsWhatPushStored : Prop :=
  ∀ (p : StackPair) (s : State), ramAt s (s.cpu.sp - 1#16) = true → ramAt s (s.cpu.sp - 2#16) = true →
    (p = .af → s.cpu.f &&& 0x0F#8 = 0x00#8) →
    ∃ t u, exec (.push p) s = .next t ∧ exec (.pop p) t = .next u ∧ u.cpu.sp = s.cpu.sp ∧ u.cpu.f = s.cpu.f ∧
      RegsKept [] s u

/-! ### Arithmetic and logic -/

/-- R250: `Add8(a, b, cin)`, its two forms of H the same. -/
def Obligations.AddFunctionOfTheAlu : Prop :=
  ∀ (a b : Byte) (cin : Bool),
    (add8 a b cin).res.toNat = (a.toNat + b.toNat + cin.toNat) % 256 ∧
    (add8 a b cin).z = decide ((a.toNat + b.toNat + cin.toNat) % 256 = 0) ∧ (add8 a b cin).n = false ∧
    (add8 a b cin).h = decide (15 < a.toNat % 16 + b.toNat % 16 + cin.toNat) ∧
    (add8 a b cin).h = decide ((a ^^^ b ^^^ (add8 a b cin).res) &&& 0x10#8 ≠ 0x00#8) ∧
    (add8 a b cin).c = decide (255 < a.toNat + b.toNat + cin.toNat)

/-- ADD and ADC on a register, (HL) and an immediate (18 rows): R253 to R258. -/
def Obligations.AddAndAddWithCarry : Prop :=
  ∀ (form : AluForm) (s : State),
    (∃ t, exec (form.instr .add) s = .next t ∧ t.cpu.a.toNat = (s.cpu.a.toNat + form.operand s) % 256 ∧
      FlagsAre t (decide ((s.cpu.a.toNat + form.operand s) % 256 = 0)) false
        (decide (15 < s.cpu.a.toNat % 16 + form.operand s % 16)) (decide (255 < s.cpu.a.toNat + form.operand s)) ∧
      RegisterFrame form.len [.a] s t) ∧
    (∃ t, exec (form.instr .adc) s = .next t ∧
      t.cpu.a.toNat = (s.cpu.a.toNat + form.operand s + s.flagC.toNat) % 256 ∧
      FlagsAre t (decide ((s.cpu.a.toNat + form.operand s + s.flagC.toNat) % 256 = 0)) false
        (decide (15 < s.cpu.a.toNat % 16 + form.operand s % 16 + s.flagC.toNat))
        (decide (255 < s.cpu.a.toNat + form.operand s + s.flagC.toNat)) ∧
      RegisterFrame form.len [.a] s t)

/-- SUB, SBC and CP on a register, (HL) and an immediate (27 rows): R259 to R264, R274 to R276. CP writes the flags of SUB and
not A. C is the borrow (the spec's decision D34, log entry 17). -/
def Obligations.SubtractAndCompare : Prop :=
  ∀ (form : AluForm) (s : State),
    (∃ t, exec (form.instr .sub) s = .next t ∧
      (t.cpu.a.toNat : Int) = ((s.cpu.a.toNat : Int) - (form.operand s : Int)) % 256 ∧
      FlagsAre t (decide (s.cpu.a.toNat = form.operand s)) true
        (decide (s.cpu.a.toNat % 16 < form.operand s % 16)) (decide (s.cpu.a.toNat < form.operand s)) ∧
      RegisterFrame form.len [.a] s t) ∧
    (∃ t, exec (form.instr .sbc) s = .next t ∧
      (t.cpu.a.toNat : Int) = ((s.cpu.a.toNat : Int) - (form.operand s : Int) - (s.flagC.toNat : Int)) % 256 ∧
      FlagsAre t (decide (((s.cpu.a.toNat : Int) - (form.operand s : Int) - (s.flagC.toNat : Int)) % 256 = 0)) true
        (decide (s.cpu.a.toNat % 16 < form.operand s % 16 + s.flagC.toNat))
        (decide (s.cpu.a.toNat < form.operand s + s.flagC.toNat)) ∧
      RegisterFrame form.len [.a] s t) ∧
    (∃ t, exec (form.instr .cp) s = .next t ∧
      FlagsAre t (decide (s.cpu.a.toNat = form.operand s)) true
        (decide (s.cpu.a.toNat % 16 < form.operand s % 16)) (decide (s.cpu.a.toNat < form.operand s)) ∧
      RegisterFrame form.len [] s t)

/-- AND, XOR and OR on a register, (HL) and an immediate (27 rows): R265 to R273, bit by bit. H of AND, and H and C of XOR and
OR, are general knowledge of the spec (G6, log entry 16). -/
def Obligations.LogicOperations : Prop :=
  ∀ (form : AluForm) (s : State),
    (∃ t, exec (form.instr .and) s = .next t ∧
      (∀ k < 8, t.cpu.a.getLsbD k = (s.cpu.a.getLsbD k && (form.operand s).testBit k)) ∧
      FlagsAre t (decide (t.cpu.a = 0x00#8)) false true false ∧ RegisterFrame form.len [.a] s t) ∧
    (∃ t, exec (form.instr .xor) s = .next t ∧
      (∀ k < 8, t.cpu.a.getLsbD k = (s.cpu.a.getLsbD k != (form.operand s).testBit k)) ∧
      FlagsAre t (decide (t.cpu.a = 0x00#8)) false false false ∧ RegisterFrame form.len [.a] s t) ∧
    (∃ t, exec (form.instr .or) s = .next t ∧
      (∀ k < 8, t.cpu.a.getLsbD k = (s.cpu.a.getLsbD k || (form.operand s).testBit k)) ∧
      FlagsAre t (decide (t.cpu.a = 0x00#8)) false false false ∧ RegisterFrame form.len [.a] s t)

/-- INC and DEC on a register (14 rows) and on (HL): R277 to R280; C is kept. Their H is general knowledge of the spec (G6, log entry
16). -/
def Obligations.IncrementAndDecrement : Prop :=
  ∀ s : State,
    (∀ r : Reg8, ∃ t, exec (.incReg r) s = .next t ∧ (t.reg r).toNat = ((s.reg r).toNat + 1) % 256 ∧
      FlagsAre t (decide ((s.reg r).toNat = 255)) false (decide ((s.reg r).toNat % 16 = 15)) s.flagC ∧
      RegisterFrame 1 [r] s t) ∧
    (∀ r : Reg8, ∃ t, exec (.decReg r) s = .next t ∧ (t.reg r).toNat = ((s.reg r).toNat + 255) % 256 ∧
      FlagsAre t (decide ((s.reg r).toNat = 1)) true (decide ((s.reg r).toNat % 16 = 0)) s.flagC ∧
      RegisterFrame 1 [r] s t) ∧
    (∃ t v, exec .inc_atHL s = .next t ∧ Stores s t s.hl v ∧ v.toNat = ((s.read s.hl).toNat + 1) % 256 ∧
      FlagsAre t (decide ((s.read s.hl).toNat = 255)) false (decide ((s.read s.hl).toNat % 16 = 15)) s.flagC ∧
      RegsKept [] s t ∧ t.cpu.sp = s.cpu.sp ∧ t.cpu.pc = pcAfter s 1 ∧ HiddenKept s t) ∧
    (∃ t v, exec .dec_atHL s = .next t ∧ Stores s t s.hl v ∧ v.toNat = ((s.read s.hl).toNat + 255) % 256 ∧
      FlagsAre t (decide ((s.read s.hl).toNat = 1)) true (decide ((s.read s.hl).toNat % 16 = 0)) s.flagC ∧
      RegsKept [] s t ∧ t.cpu.sp = s.cpu.sp ∧ t.cpu.pc = pcAfter s 1 ∧ HiddenKept s t)

/-- DAA, CPL, SCF, CCF: R281 to R284. DAA's algorithm (G8) and Z of SCF and CCF are general knowledge of the spec (log
entry 16). -/
def Obligations.AccumulatorAdjustments : Prop :=
  ∀ s : State,
    (s.flagN = false → ∃ t, exec .daa s = .next t ∧
      t.cpu.a.toNat = (s.cpu.a.toNat + (if s.flagH = true ∨ 9 < s.cpu.a.toNat % 16 then 6 else 0) +
        (if s.flagC = true ∨ 0x99 < s.cpu.a.toNat then 0x60 else 0)) % 256 ∧
      FlagsAre t (decide (t.cpu.a = 0x00#8)) false false (decide (s.flagC = true ∨ 0x99 < s.cpu.a.toNat)) ∧
      RegisterFrame 1 [.a] s t) ∧
    (s.flagN = true → ∃ t, exec .daa s = .next t ∧
      (t.cpu.a.toNat : Int) = ((s.cpu.a.toNat : Int) - (if s.flagH = true then 6 else 0) -
        (if s.flagC = true then 0x60 else 0)) % 256 ∧
      FlagsAre t (decide (t.cpu.a = 0x00#8)) true false s.flagC ∧ RegisterFrame 1 [.a] s t) ∧
    (∃ t, exec .cpl s = .next t ∧ t.cpu.a.toNat = 255 - s.cpu.a.toNat ∧ FlagsAre t s.flagZ true true s.flagC ∧
      RegisterFrame 1 [.a] s t) ∧
    (∃ t, exec .scf s = .next t ∧ FlagsAre t s.flagZ false false true ∧ RegisterFrame 1 [] s t) ∧
    (∃ t, exec .ccf s = .next t ∧ FlagsAre t s.flagZ false false (!s.flagC) ∧ RegisterFrame 1 [] s t)

/-- "DAA post-adjusts A after BCD add/sub" (R281): for two packed decimal operands and the old carry, ADC then DAA is the
decimal sum and SBC then DAA the decimal difference, modulo 100, with C the decimal carry or borrow and Z set exactly at 0. DAA's
algorithm is general knowledge of the spec (G8, log entry 16), C of SBC as the borrow its decision D34 (log entry 17). -/
def Obligations.DaaMakesAdditionAndSubtractionDecimal : Prop :=
  ∀ (s : State) (x y : Nat), x < 100 → y < 100 → s.cpu.a = bcd x → s.cpu.b = bcd y →
    (∃ t u, exec (.aluReg .adc .b) s = .next t ∧ exec .daa t = .next u ∧
      u.cpu.a = bcd ((x + y + s.flagC.toNat) % 100) ∧ u.flagC = decide (100 ≤ x + y + s.flagC.toNat) ∧
      u.flagZ = decide ((x + y + s.flagC.toNat) % 100 = 0)) ∧
    (∃ t u, exec (.aluReg .sbc .b) s = .next t ∧ exec .daa t = .next u ∧
      u.cpu.a = bcd ((x + 100 - y + 100 - s.flagC.toNat) % 100) ∧ u.flagC = decide (x < y + s.flagC.toNat) ∧
      u.flagZ = decide ((x + 100 - y + 100 - s.flagC.toNat) % 100 = 0))

/-- ADD HL,rr, INC rr, DEC rr (4 rows each), ADD SP,e: R290 to R294. Z kept by ADD HL,rr, INC rr and DEC rr writing no
flag, and the flags of ADD SP,e are general knowledge of the spec (G7, log entry 16), the wrap D39 (log entry 17). -/
def Obligations.WordArithmetic : Prop :=
  ∀ s : State,
    (∀ p : RegPair, ∃ t, exec (.addHl p) s = .next t ∧ t.hl.toNat = (s.hl.toNat + (s.pair p).toNat) % 65536 ∧
      FlagsAre t s.flagZ false (decide (4095 < s.hl.toNat % 4096 + (s.pair p).toNat % 4096))
        (decide (65535 < s.hl.toNat + (s.pair p).toNat)) ∧
      RegisterFrame 1 [.h, .l] s t) ∧
    (∀ p : RegPair, ∃ t, exec (.incPair p) s = .next t ∧ (t.pair p).toNat = ((s.pair p).toNat + 1) % 65536 ∧
      (∀ q : RegPair, q ≠ p → t.pair q = s.pair q) ∧ t.cpu.a = s.cpu.a ∧ t.cpu.f = s.cpu.f ∧ t.cpu.pc = pcAfter s 1 ∧
      HiddenKept s t ∧ NothingStored s t) ∧
    (∀ p : RegPair, ∃ t, exec (.decPair p) s = .next t ∧ (t.pair p).toNat = ((s.pair p).toNat + 65535) % 65536 ∧
      (∀ q : RegPair, q ≠ p → t.pair q = s.pair q) ∧ t.cpu.a = s.cpu.a ∧ t.cpu.f = s.cpu.f ∧ t.cpu.pc = pcAfter s 1 ∧
      HiddenKept s t ∧ NothingStored s t) ∧
    (∀ e : Byte, ∃ t, exec (.add_sp_e8 e) s = .next t ∧ (t.cpu.sp.toNat : Int) = (s.cpu.sp.toNat + e.toInt) % 65536 ∧
      FlagsAre t false false (decide (15 < s.cpu.sp.toNat % 16 + e.toNat % 16))
        (decide (255 < s.cpu.sp.toNat % 256 + e.toNat)) ∧
      RegsKept [] s t ∧ t.cpu.pc = pcAfter s 2 ∧ HiddenKept s t ∧ NothingStored s t)

/-! ### Rotates, shifts and bits -/

/-- RLCA, RRCA, RLA, RRA and the 64 rotates and shifts of the `cb` table: R300 to R322, in numbers. The rotates of A leave
Z = 0; the `cb` rows set it from the result. The function of R300, Z = 0 of the rotates of A, N, H and C, and C = 0 of SWAP are
general knowledge of the spec (G6, log entry 16). -/
def Obligations.RotatesAndShifts : Prop :=
  ∀ s : State,
    (∀ pick ∈ [(Instr.rlca, RotKind.rlc), (.rrca, .rrc), (.rla, .rl), (.rra, .rr)], ∃ t, exec pick.1 s = .next t ∧
      t.cpu.a.toNat = shiftNat pick.2 s.cpu.a.toNat s.flagC.toNat ∧
      FlagsAre t false false false (shiftOut pick.2 s.cpu.a.toNat) ∧ RegisterFrame 1 [.a] s t) ∧
    (∀ (kind : RotKind) (r : Reg8), ∃ t, exec (.rot kind (.reg r)) s = .next t ∧
      (t.reg r).toNat = shiftNat kind (s.reg r).toNat s.flagC.toNat ∧
      FlagsAre t (decide (t.reg r = 0x00#8)) false false (shiftOut kind (s.reg r).toNat) ∧ RegisterFrame 2 [r] s t) ∧
    (∀ kind : RotKind, ∃ t v, exec (.rot kind .atHL) s = .next t ∧ Stores s t s.hl v ∧
      v.toNat = shiftNat kind (s.read s.hl).toNat s.flagC.toNat ∧
      FlagsAre t (decide (v = 0x00#8)) false false (shiftOut kind (s.read s.hl).toNat) ∧
      RegsKept [] s t ∧ t.cpu.sp = s.cpu.sp ∧ t.cpu.pc = pcAfter s 2 ∧ HiddenKept s t)

/-- BIT, RES and SET on every register and (HL) (192 rows): R323 to R328, bit by bit. BIT writes only flags, RES and SET no
flag; N, H and C of BIT, and that RES and SET write no flag, are general knowledge of the spec (G6, log entry 16). -/
def Obligations.BitTestResetSet : Prop :=
  ∀ (b : Fin 8) (s : State),
    (∀ r : Reg8, ∃ t, exec (.bit b (.reg r)) s = .next t ∧ FlagsAre t (!(s.reg r).getLsbD b.val) false true s.flagC ∧
      RegisterFrame 2 [] s t) ∧
    (∃ t, exec (.bit b .atHL) s = .next t ∧ FlagsAre t (!(s.read s.hl).getLsbD b.val) false true s.flagC ∧
      RegisterFrame 2 [] s t) ∧
    (∀ r : Reg8, ∃ t, exec (.res b (.reg r)) s = .next t ∧
      (∀ k < 8, (t.reg r).getLsbD k = (decide (k ≠ b.val) && (s.reg r).getLsbD k)) ∧ t.cpu.f = s.cpu.f ∧
      RegisterFrame 2 [r] s t) ∧
    (∃ t v, exec (.res b .atHL) s = .next t ∧ Stores s t s.hl v ∧
      (∀ k < 8, v.getLsbD k = (decide (k ≠ b.val) && (s.read s.hl).getLsbD k)) ∧ t.cpu.sp = s.cpu.sp ∧
      StoreFrame 2 [] s t) ∧
    (∀ r : Reg8, ∃ t, exec (.set b (.reg r)) s = .next t ∧
      (∀ k < 8, (t.reg r).getLsbD k = (decide (k = b.val) || (s.reg r).getLsbD k)) ∧ t.cpu.f = s.cpu.f ∧
      RegisterFrame 2 [r] s t) ∧
    (∃ t v, exec (.set b .atHL) s = .next t ∧ Stores s t s.hl v ∧
      (∀ k < 8, v.getLsbD k = (decide (k = b.val) || (s.read s.hl).getLsbD k)) ∧ t.cpu.sp = s.cpu.sp ∧
      StoreFrame 2 [] s t)

/-- PREFIX CB: R305. The prefix row with a second byte completes as the `cb` row of that byte. The constructor `prefix_cb`, which the
decoder never answers, and its meaning are the model's choice (log entry 11, DESIGN CHOICE). -/
def Obligations.PrefixRunsTheCbRow : Prop :=
  ∀ (op2 : Byte) (s : State), ∃ t, exec (.prefix_cb op2) s = .next t ∧ exec (decodeCb op2) s = .next t

/-! ### Control -/

/-- JP nn, JP cc,nn (4), JP HL, JR e, JR cc,e (4): R330 to R334, R341. Only PC changes. The base of JR and the condition table are general
knowledge of the spec (G10, G3, log entry 16), the wrap of PC is its decision D39 (log entry 17). -/
def Obligations.Jumps : Prop :=
  ∀ s : State,
    (∀ nn : Word, ∃ t, exec (.jp_n16 nn) s = .next t ∧ t.cpu.pc = nn ∧ t.cpu.f = s.cpu.f ∧ t.cpu.sp = s.cpu.sp ∧
      RegsKept [] s t ∧ HiddenKept s t ∧ NothingStored s t) ∧
    (∀ (cc : Cond) (nn : Word), ∃ t, exec (.jpCond cc nn) s = .next t ∧
      t.cpu.pc = (if holds cc s then nn else pcAfter s 3) ∧ t.cpu.f = s.cpu.f ∧ t.cpu.sp = s.cpu.sp ∧
      RegsKept [] s t ∧ HiddenKept s t ∧ NothingStored s t) ∧
    (∃ t, exec .jp_hl s = .next t ∧ t.cpu.pc = s.hl ∧ t.cpu.f = s.cpu.f ∧ t.cpu.sp = s.cpu.sp ∧
      RegsKept [] s t ∧ HiddenKept s t ∧ NothingStored s t) ∧
    (∀ e : Byte, ∃ t, exec (.jr_e8 e) s = .next t ∧ (t.cpu.pc.toNat : Int) = ((pcAfter s 2).toNat + e.toInt) % 65536 ∧
      t.cpu.f = s.cpu.f ∧ t.cpu.sp = s.cpu.sp ∧ RegsKept [] s t ∧ HiddenKept s t ∧ NothingStored s t) ∧
    (∀ (cc : Cond) (e : Byte), ∃ t, exec (.jrCond cc e) s = .next t ∧
      (t.cpu.pc.toNat : Int) =
        (if holds cc s then ((pcAfter s 2).toNat + e.toInt) % 65536 else ((pcAfter s 2).toNat : Int)) ∧
      t.cpu.f = s.cpu.f ∧ t.cpu.sp = s.cpu.sp ∧ RegsKept [] s t ∧ HiddenKept s t ∧ NothingStored s t)

/-- CALL nn, CALL cc,nn (4), RST t (8): R335, R336, R340. The address after the instruction is pushed and PC goes to the
target; a call not taken only advances PC. The condition table is general knowledge of the spec (G3, log entry 16), the wrap of SP
its decision D39 (log entry 17). -/
def Obligations.CallsAndRestarts : Prop :=
  ∀ s : State,
    (∀ nn : Word, ∃ t, exec (.call_n16 nn) s = .next t ∧ t.cpu.pc = nn ∧ Pushes s t (pcAfter s 3) ∧
      t.cpu.sp = s.cpu.sp - 2#16 ∧ t.cpu.f = s.cpu.f ∧ RegsKept [] s t ∧ HiddenKept s t) ∧
    (∀ (cc : Cond) (nn : Word), holds cc s = true → ∃ t, exec (.callCond cc nn) s = .next t ∧ t.cpu.pc = nn ∧
      Pushes s t (pcAfter s 3) ∧ t.cpu.sp = s.cpu.sp - 2#16 ∧ t.cpu.f = s.cpu.f ∧ RegsKept [] s t ∧ HiddenKept s t) ∧
    (∀ (cc : Cond) (nn : Word), holds cc s = false → ∃ t, exec (.callCond cc nn) s = .next t ∧ t.cpu.f = s.cpu.f ∧
      RegisterFrame 3 [] s t) ∧
    (∀ y : Fin 8, ∃ t, exec (.rst y) s = .next t ∧ t.cpu.pc.toNat = 8 * y.val ∧ Pushes s t (pcAfter s 1) ∧
      t.cpu.sp = s.cpu.sp - 2#16 ∧ t.cpu.f = s.cpu.f ∧ RegsKept [] s t ∧ HiddenKept s t)

/-- RET, RET cc (4), RETI: R337, R338, R339. RETI sets IME at once and leaves pendingIME. The condition table is general knowledge of
the spec (G3, log entry 16), the wrap of SP its decision D39 (log entry 17). -/
def Obligations.Returns : Prop :=
  ∀ s : State,
    (∃ t, exec .ret s = .next t ∧ t.cpu.pc = poppedWord s ∧ t.cpu.sp = s.cpu.sp + 2#16 ∧ t.cpu.f = s.cpu.f ∧
      RegsKept [] s t ∧ HiddenKept s t ∧ NothingStored s t) ∧
    (∀ cc : Cond, ∃ t, exec (.retCond cc) s = .next t ∧
      t.cpu.pc = (if holds cc s then poppedWord s else pcAfter s 1) ∧
      t.cpu.sp = (if holds cc s then s.cpu.sp + 2#16 else s.cpu.sp) ∧ t.cpu.f = s.cpu.f ∧
      RegsKept [] s t ∧ HiddenKept s t ∧ NothingStored s t) ∧
    (∃ t, exec .reti s = .next t ∧ t.cpu.pc = poppedWord s ∧ t.cpu.sp = s.cpu.sp + 2#16 ∧ t.cpu.f = s.cpu.f ∧
      t.cpu.ime = true ∧ t.cpu.pendingIme = s.cpu.pendingIme ∧ t.cpu.halted = s.cpu.halted ∧
      t.cpu.locked = s.cpu.locked ∧ t.cpu.haltBug = false ∧ RegsKept [] s t ∧ NothingStored s t)

/-! ### System -/

/-- HALT: R361. With IME set, or no enabled interrupt pending, the CPU halts; otherwise the HALT-bug latch is set (the mask 0x1F is
the spec's decision D2, the latch its decision D3). NOP, STOP (with any padding byte), DI, EI: R360, R362, R363, R364. STOP does
not stop (decision D5); EI does not change IME by itself (decision D1). (Decisions: log entry 17.) -/
def Obligations.SystemInstructions : Prop :=
  (∀ s : State, ∃ t, exec .halt s = .next t ∧
      (s.cpu.ime = true ∨ s.ie.toNat % 32 &&& s.iflag.toNat = 0 → t.cpu.halted = true ∧ t.cpu.haltBug = false) ∧
      (s.cpu.ime = false → s.ie.toNat % 32 &&& s.iflag.toNat ≠ 0 →
        t.cpu.halted = s.cpu.halted ∧ t.cpu.haltBug = true) ∧
      t.cpu.ime = s.cpu.ime ∧ t.cpu.pendingIme = s.cpu.pendingIme ∧ t.cpu.locked = s.cpu.locked ∧ t.cpu.f = s.cpu.f ∧
      t.cpu.sp = s.cpu.sp ∧ t.cpu.pc = pcAfter s 1 ∧ RegsKept [] s t ∧ NothingStored s t) ∧
  ∀ s : State,
    (∃ t, exec .nop s = .next t ∧ t.cpu.f = s.cpu.f ∧ RegisterFrame 1 [] s t) ∧
    (∀ pad : Byte, ∃ t, exec (.stop pad) s = .next t ∧ t.cpu.f = s.cpu.f ∧ RegisterFrame 2 [] s t) ∧
    (∃ t, exec .di s = .next t ∧ t.cpu.ime = false ∧ t.cpu.pendingIme = false ∧ t.cpu.f = s.cpu.f ∧
      t.cpu.halted = s.cpu.halted ∧ t.cpu.locked = s.cpu.locked ∧ t.cpu.haltBug = false ∧ t.cpu.sp = s.cpu.sp ∧
      t.cpu.pc = pcAfter s 1 ∧ RegsKept [] s t ∧ NothingStored s t) ∧
    (∃ t, exec .ei s = .next t ∧ t.cpu.ime = s.cpu.ime ∧ t.cpu.pendingIme = true ∧ t.cpu.f = s.cpu.f ∧
      t.cpu.halted = s.cpu.halted ∧ t.cpu.locked = s.cpu.locked ∧ t.cpu.haltBug = false ∧ t.cpu.sp = s.cpu.sp ∧
      t.cpu.pc = pcAfter s 1 ∧ RegsKept [] s t ∧ NothingStored s t)

/-- The eleven ILLEGAL rows stop with UndefinedOpcode(byte, pc): R365, R430. What the raise leaves: `locked` set, PC after the
byte, nothing else changed; a locked CPU raises the same error at every step and changes nothing (the spec's decision D4, log entry 4). -/
def Obligations.UndefinedOpcodesLockTheCpu : Prop :=
  (∀ (b : IllegalByte) (s : State), exec (.illegal b) s =
    .fault (.undefinedOpcode b.byte s.cpu.pc
      { s with
        cpu :=
          { s.cpu with
            pc := pcAfter s 1, haltBug := false, locked := some { byte := b.byte, pc := s.cpu.pc } } })) ∧
  ∀ (s : State) (lock : Lock), s.hostTurn.cpu.locked = some lock →
    Sys2Proof.Machine.step s = .fault (.undefinedOpcode lock.byte lock.pc s.hostTurn)

/-- R171, R365, R430: exactly the eleven bytes fetched as an opcode are undefined, executing one raises UndefinedOpcode with the byte
and its address after only the opcode byte was fetched; R172: every other instruction completes, these bytes as operands included.
Raising the fault is the spec's decision D4 (log entry 4, DESIGN CHOICE); the constructor `prefix_cb`, which completes too, is log
entry 11. -/
def Obligations.OnlyTheElevenBytesAreUndefined : Prop :=
  (∀ b0 b1 b2 : Byte, (∃ b : IllegalByte, decodeBytes b0 b1 b2 = .illegal b) ↔
    b0 ∈ [0xD3#8, 0xDB#8, 0xDD#8, 0xE3#8, 0xE4#8, 0xEB#8, 0xEC#8, 0xED#8, 0xF4#8, 0xFC#8, 0xFD#8]) ∧
  (∀ (b0 b1 b2 : Byte) (b : IllegalByte) (s : State), decodeBytes b0 b1 b2 = .illegal b →
    ∃ left, exec (decodeBytes b0 b1 b2) s = .fault (.undefinedOpcode b0 s.cpu.pc left) ∧ left.cpu.pc = pcAfter s 1) ∧
  ∀ (i : Instr) (s : State), (∀ b : IllegalByte, i ≠ .illegal b) → ∃ t, exec i s = .next t

/-! ### Cycles -/

/-- R571: the T-cycles of the `cb` rows in an instance with the default table. -/
def Obligations.CbRowsCost : Prop :=
  ∀ (op2 : Byte) (s : State), s.params.cycles = [] → ∃ t, exec (decodeCb op2) s = .next t ∧
    t.cost = (if op2.toNat % 8 ≠ 6 then 8 else if op2.toNat / 64 = 1 then 12 else 16)

/-- R570: the T-cycles of the base rows in an instance with the default table, transfers taken and not taken. NOP 4, LD A,n 8,
ADD A,n 8, STOP 4, JP nn 16 and "taken adds 4 to 12" are the source's, the others general knowledge of the spec (G5, decision D31;
log entries 5, 16 and 17). -/
def Obligations.BaseRowsCost : Prop :=
  ∀ s : State, s.params.cycles = [] →
    ((∀ dst src, Costs s (.ldRegReg dst src) 4) ∧ (∀ dst n, Costs s (.ldRegImm dst n) 8) ∧
      (∀ dst, Costs s (.ldRegMem dst) 8) ∧ (∀ src, Costs s (.ldMemReg src) 8) ∧ (∀ n, Costs s (.ld_atHL_n8 n) 12) ∧
      (∀ i ∈ [Instr.ld_a_atBC, .ld_a_atDE, .ld_atBC_a, .ld_atDE_a, .ld_a_atHLI, .ld_a_atHLD, .ld_atHLI_a, .ld_atHLD_a,
        .ldh_a_atC, .ldh_atC_a], Costs s i 8) ∧
      (∀ nn, Costs s (.ld_a_atN16 nn) 16 ∧ Costs s (.ld_atN16_a nn) 16) ∧
      ∀ n, Costs s (.ldh_a_atN8 n) 12 ∧ Costs s (.ldh_atN8_a n) 12) ∧
    ((∀ p nn, Costs s (.ldPairImm p nn) 12) ∧ (∀ nn, Costs s (.ld_atN16_sp nn) 20) ∧ Costs s .ld_sp_hl 8 ∧
      (∀ e, Costs s (.ld_hl_spE8 e) 12) ∧ (∀ p, Costs s (.push p) 16) ∧ ∀ p, Costs s (.pop p) 12) ∧
    ((∀ op r, Costs s (.aluReg op r) 4) ∧ (∀ op, Costs s (.aluMem op) 8) ∧ (∀ op n, Costs s (.aluImm op n) 8) ∧
      (∀ r, Costs s (.incReg r) 4 ∧ Costs s (.decReg r) 4) ∧ Costs s .inc_atHL 12 ∧ Costs s .dec_atHL 12 ∧
      (∀ i ∈ [Instr.daa, .cpl, .scf, .ccf, .rlca, .rrca, .rla, .rra], Costs s i 4) ∧
      (∀ p, Costs s (.addHl p) 8 ∧ Costs s (.incPair p) 8 ∧ Costs s (.decPair p) 8) ∧ ∀ e, Costs s (.add_sp_e8 e) 16) ∧
    ((∀ nn, Costs s (.jp_n16 nn) 16) ∧ (∀ cc nn, Costs s (.jpCond cc nn) (if holds cc s then 16 else 12)) ∧
      Costs s .jp_hl 4 ∧ (∀ e, Costs s (.jr_e8 e) 12) ∧ (∀ cc e, Costs s (.jrCond cc e) (if holds cc s then 12 else 8)) ∧
      (∀ nn, Costs s (.call_n16 nn) 24) ∧ (∀ cc nn, Costs s (.callCond cc nn) (if holds cc s then 24 else 12)) ∧
      Costs s .ret 16 ∧ (∀ cc, Costs s (.retCond cc) (if holds cc s then 20 else 8)) ∧ Costs s .reti 16 ∧
      ∀ y, Costs s (.rst y) 16) ∧
    Costs s .nop 4 ∧ (∀ pad, Costs s (.stop pad) 4) ∧ Costs s .halt 4 ∧ Costs s .di 4 ∧ Costs s .ei 4

/-- A CPU step returns a positive multiple of 4 in every legal instance: 4 idle, 20 for a dispatch, or a CYCLES entry (R400,
R401, R6). -/
def Obligations.StepCostIsAMultipleOfFour : Prop :=
  ∀ s t : State, s.params.sound → s.cpuStep = .next t → 0 < t.cost ∧ t.cost % 4 = 0

/-! ### Interrupts -/

/-- Interrupt dispatch: R402, R410, R412. With IME set and an enabled interrupt pending, the lowest-numbered one is taken: its
IF bit is cleared, IME and pendingIME too, PC is pushed, PC goes to 0x0040 + 8 i, the step costs 20, a halted CPU wakes and
nothing else changes. Clearing pendingIME is the spec's reading of the source's order (D1), keeping the HALT-bug latch its decision
D3 (log entry 17). -/
def Obligations.LowestPendingInterruptIsDispatched : Prop :=
  ∀ (s : State) (source : IntSource), s.cpu.locked = none → s.cpu.ime = true →
    s.ie.getLsbD source.index = true → s.iflag.getLsbD source.index = true →
    (∀ lower < source.index, s.ie.getLsbD lower = false ∨ s.iflag.getLsbD lower = false) →
    ∃ t, s.cpuStep = .next t ∧ t.cpu.pc.toNat = 0x40 + 8 * source.index ∧ t.cpu.sp = s.cpu.sp - 2#16 ∧
      Pushes { s with iflag := s.iflag &&& ~~~source.mask } t s.cpu.pc ∧
      t.cpu.ime = false ∧ t.cpu.pendingIme = false ∧ t.cpu.halted = false ∧ t.cpu.locked = none ∧
      t.cpu.haltBug = s.cpu.haltBug ∧ t.cpu.f = s.cpu.f ∧ RegsKept [] s t ∧ t.cost = 20

/-- EI is delayed: R364, R400, R551. In a step that runs an instruction after EI, no interrupt is dispatched first (IME is
still false), and IME becomes true at its end unless the instruction cleared pendingIME. When the promotion happens is the
spec's decision D1 (log entry 17). -/
def Obligations.EiTakesEffectAfterTheNextInstruction : Prop :=
  ∀ s t : State, Runs s → exec s.nextInstr s.wake = .next t →
    (s.cpu.pendingIme = true → t.cpu.pendingIme = true →
      s.cpuStep = .next { t with cpu := { t.cpu with ime := true, pendingIme := false } }) ∧
    (s.cpu.pendingIme = false ∨ t.cpu.pendingIme = false → s.cpuStep = .next t)

/-- A halted CPU: R361, R400, R415. With no enabled interrupt pending a step only costs 4; otherwise it steps as the woken CPU
does, whatever IME is. The mask of the pending interrupts is the spec's decision D2 (log entry 17). -/
def Obligations.HaltedCpuIdlesOrWakes : Prop :=
  ∀ s : State, s.cpu.locked = none → s.cpu.halted = true →
    (s.pending = 0#5 → s.cpuStep = .next { s with cost := 4 }) ∧
    (s.pending ≠ 0#5 → s.cpuStep = State.cpuStep { s with cpu := { s.cpu with halted := false } })

/-- The HALT bug: R361 "`76 3C` with the bug executes `INC A` twice". With the latch set and 0x3C at PC, two steps of a CPU
that takes no interrupt add 2 to A and advance PC by 1. The latch is the spec's decision D3 (log entry 17). -/
def Obligations.HaltBugRunsTheByteTwice : Prop :=
  ∀ s : State, Runs s → s.cpu.haltBug = true → s.readAt .opcode s.cpu.pc = 0x3C#8 → s.cpu.ime = false →
    s.cpu.pendingIme = false →
    ∃ t u, s.cpuStep = .next t ∧ t.cpu.pc = s.cpu.pc ∧ t.cpu.a = s.cpu.a + 1#8 ∧ t.cpuStep = .next u ∧
      u.cpu.pc = s.cpu.pc + 1#16 ∧ u.cpu.a = s.cpu.a + 2#8

/-- The host's calls: R405, R128, R464. `requestInterrupt` sets its IF bit and nothing else. `pressButton` sets the button's bit, and
IF bit 4 exactly when a visible JOYP line falls (decision D14, general knowledge G13, log entries 17 and 16); `releaseButton` clears the button's bit only. `frameReady` returns
the latch and clears it, and changes nothing else, so that a second call returns false; the one tick that sets the latch is the
entry of VBlank (decision D38, log entry 17). -/
def Obligations.HostCallsChangeOnlyTheirParts : Prop :=
  (∀ (s : State) (i : IntSource), ∃ m : BitVec 5, s.requestInterrupt i = { s with iflag := m } ∧
    ∀ k < 5, m.getLsbD k = (s.iflag.getLsbD k || decide (k = i.index))) ∧
  (∀ (s : State) (id : Fin 8), ∃ (p : BitVec 8) (m : BitVec 5),
    s.pressButton id = { s with joypad := { s.joypad with pressed := p }, iflag := m } ∧
    (∀ k < 8, p.getLsbD k = (s.joypad.pressed.getLsbD k || decide (k = id.val))) ∧
    ∀ k < 5, m.getLsbD k = (s.iflag.getLsbD k ||
      (decide (k = 4) && !s.joypad.select.getLsbD (id.val / 4) &&
        !(!s.joypad.select.getLsbD 0 && s.joypad.pressed.getLsbD (id.val % 4)) &&
        !(!s.joypad.select.getLsbD 1 && s.joypad.pressed.getLsbD (id.val % 4 + 4))))) ∧
  (∀ (s : State) (id : Fin 8), ∃ p : BitVec 8, s.releaseButton id = { s with joypad := { s.joypad with pressed := p } } ∧
    ∀ k < 8, p.getLsbD k = (s.joypad.pressed.getLsbD k && decide (k ≠ id.val))) ∧
  (∀ s : State, s.frameReady = (s.ppu.frameReadyLatch, { s with ppu := { s.ppu with frameReadyLatch := false } }) ∧
    s.act .pollFrameReady = s.frameReady.2 ∧ s.frameReady.2.frameReady = (false, s.frameReady.2)) ∧
  ∀ (draw : Nat) (vram oam : Ram) (b : PpuBus), (b.tick draw vram oam).ppu.frameReadyLatch =
    (b.ppu.frameReadyLatch || decide (b.ppu.ly = 143#8 ∧ b.ppu.modeCycles = 455))

/-! ### Memory -/

/-- A write leaves every address it does not touch (`touches`) reading as before: R71, R78, R81, whatever the address and the byte;
a byte written to plain RAM is read back (R74, R80, R81). -/
def Obligations.WritesReachTheirAddressAlone : Prop :=
  (∀ (s : State) (a b : Word) (v : Byte) (site : ReadSite), touches a b = false →
      (s.write a v).readAt site b = s.readAt site b) ∧
  ∀ (s : State) (a : Word) (v : Byte) (site : ReadSite), ramAt s a = true → (s.write a v).readAt site a = v

/-- R82: the echo. Every address of 0xE000 to 0xFDFF reads as the one 0x2000 lower; a write to either is seen at both; the top
512 bytes of WRAM have no echo. -/
def Obligations.EchoMirrorsWorkRam : Prop :=
  ∀ (s : State) (a : Word) (v : Byte) (site : ReadSite),
    (0xE000 ≤ a.toNat ∧ a.toNat < 0xFE00 →
      s.readAt site a = s.readAt site (a - 0x2000#16) ∧
      (s.write a v).readAt site a = v ∧ (s.write a v).readAt site (a - 0x2000#16) = v ∧
      (s.write (a - 0x2000#16) v).readAt site a = v ∧ (s.write (a - 0x2000#16) v).readAt site (a - 0x2000#16) = v) ∧
    (0xDE00 ≤ a.toNat ∧ a.toNat < 0xE000 → ∀ b : Word, 0xE000 ≤ b.toNat → b.toNat < 0xFE00 →
      (s.write a v).readAt site b = s.readAt site b)

/-- R110, R111: what a write into 0x0000 to 0x3FFF does, and one into 0x6000 to 0x7FFF: the one register of the bank controller is
written, in numbers, and nothing else changes. That the mode is bit 0 of the value written to 0x6000 to 0x7FFF is the spec's
decision D15 (92_eei_decisions.md; the bit is not in the source, N14; log entry 17). -/
def Obligations.BankRegisterWrites : Prop :=
  ∀ (s : State) (a : Word) (v : Byte),
    (a.toNat < 0x2000 → s.write a v = { s with mbc := { s.mbc with ramEnabled := decide (v.toNat % 16 = 10) } }) ∧
    (0x2000 ≤ a.toNat → a.toNat < 0x4000 → ∃ k : BitVec 5, s.write a v = { s with mbc := { s.mbc with bank1 := k } } ∧
      k.toNat = (if v.toNat % 32 = 0 then 1 else v.toNat % 32)) ∧
    (0x6000 ≤ a.toNat → a.toNat < 0x8000 →
      s.write a v = { s with mbc := { s.mbc with mode1 := decide (v.toNat % 2 = 1) } })

/-- The ROM window: R112, R114. It shows bank `{bank2, bank1}` in mode 0 and `bank1` in mode 1, clamped to the last bank, so with
`bank1` not 0 and at least two banks never bank 0; 0x0000 to 0x3FFF always show bank 0. That `bank2` is written the same way in both
modes and routed at the access is the spec's decision D15, the clamp D16 (log entry 17). -/
def Obligations.RomWindowShowsTheSelectedBank : Prop :=
  ∀ (s : State) (site : ReadSite) (a : Word), s.mbc.sound → 2 ≤ s.params.romBanks →
    (a.toNat < 0x4000 → s.readAt site a = s.rom.read a.toNat) ∧
    (0x4000 ≤ a.toNat → a.toNat < 0x8000 → ∃ bank : Nat, 1 ≤ bank ∧ bank < s.params.romBanks ∧
      bank = min (if s.mbc.mode1 then s.mbc.bank1.toNat else s.mbc.bank2.toNat * 32 + s.mbc.bank1.toNat)
        (s.params.romBanks - 1) ∧
      s.readAt site a = s.rom.read (bank * 0x4000 + (a.toNat - 0x4000))) ∧
    (∀ v : Byte, 0x4000 ≤ a.toNat → a.toNat < 0x6000 → ∃ k : BitVec 2,
      s.write a v = { s with mbc := { s.mbc with bank2 := k } } ∧ k.toNat = v.toNat % 4)

/-- External RAM: R115, R120, R121. Disabled, absent or past its end it reads 0xFF and drops writes (decision D17); otherwise the
byte of the selected bank is read and written; bank 0 in mode 0 is decision D15, the clamp of the bank D16. BLOCKING: R80, R81, R555
(decision D19): when the parameter is set, VRAM in mode 3 and OAM in modes 2 and 3 read 0xFF and drop writes; in every other case the
array is read and written. (Decisions: log entry 17.) -/
def Obligations.GatedMemoryReadsAsOnes : Prop :=
  (∀ (s : State) (site : ReadSite) (a : Word) (v : Byte), 0xA000 ≤ a.toNat → a.toNat < 0xC000 →
      let bank := if s.params.ramBytes = 32768 ∧ s.mbc.mode1 = true then s.mbc.bank2.toNat else 0
      let off := bank * 0x2000 + (a.toNat - 0xA000)
      (s.params.ramBytes = 0 ∨ s.params.ramBytes = 2048 ∨ s.params.ramBytes = 8192 ∨ s.params.ramBytes = 32768) →
      (s.mbc.ramEnabled = false ∨ s.params.ramBytes ≤ off → s.readAt site a = 0xFF#8 ∧ s.write a v = s) ∧
      (s.mbc.ramEnabled = true → off < s.params.ramBytes →
        s.readAt site a = s.extRam.read off ∧ s.write a v = { s with extRam := s.extRam.write off v })) ∧
  ∀ (s : State) (site : ReadSite) (a : Word) (v : Byte),
    (0x8000 ≤ a.toNat → a.toNat < 0xA000 →
      (s.params.blocking = true ∧ s.ppu.mode = .pixelTransfer → s.readAt site a = 0xFF#8 ∧ s.write a v = s) ∧
      (¬(s.params.blocking = true ∧ s.ppu.mode = .pixelTransfer) →
        s.readAt site a = s.vram.read .vram (a.toNat - 0x8000) ∧
        s.write a v = { s with vram := s.vram.write (a.toNat - 0x8000) v })) ∧
    (0xFE00 ≤ a.toNat → a.toNat < 0xFEA0 →
      (s.params.blocking = true ∧ (s.ppu.mode = .oamSearch ∨ s.ppu.mode = .pixelTransfer) →
        s.readAt site a = 0xFF#8 ∧ s.write a v = s) ∧
      (¬(s.params.blocking = true ∧ (s.ppu.mode = .oamSearch ∨ s.ppu.mode = .pixelTransfer)) →
        s.readAt site a = s.oam.read .oam (a.toNat - 0xFE00) ∧
        s.write a v = { s with oam := s.oam.write (a.toNat - 0xFE00) v }))

/-- The I/O registers (10_state.md R45, R140): the plain ones read back what was written; IF keeps five bits under three ones;
JOYP keeps bits 5:4 (R127) and shows the selected rows active-low (R126); SC with bit 7 hands SB to the host (R131). Unnamed I/O
bytes as storage are the spec's decision D11, TAC's bits D42, SC leaving IF alone D21, IF's five bits D41, JOYP's bits D13 (log entry
17); JOYP's layout is general knowledge of the spec (G13, log entry 16). -/
def Obligations.IoRegistersReadBack : Prop :=
  ∀ (s : State) (v : Byte) (site : ReadSite),
    (∀ off : Nat, off < 0x80 → off ∉ [0x00, 0x04, 0x0F, 0x41, 0x44] →
      (s.write (BitVec.ofNat 16 (0xFF00 + off)) v).readAt site (BitVec.ofNat 16 (0xFF00 + off)) = v) ∧
    ((s.write 0xFF0F#16 v).readAt site 0xFF0F#16).toNat = 224 + v.toNat % 32 ∧
    (s.write 0xFF00#16 v).joypad.select.toNat = v.toNat / 16 % 4 ∧
    (s.write 0xFF00#16 v).joypad.pressed = s.joypad.pressed ∧
    (∀ k < 4, (s.readAt site 0xFF00#16).getLsbD k =
      !((!s.joypad.select.getLsbD 0 && s.joypad.pressed.getLsbD k) ||
        (!s.joypad.select.getLsbD 1 && s.joypad.pressed.getLsbD (k + 4)))) ∧
    (s.readAt site 0xFF00#16).toNat / 16 = 12 + s.joypad.select.toNat ∧
    (s.write 0xFF02#16 v).serial.sent =
      (if 128 ≤ v.toNat then s.serial.sent ++ [s.serial.sb] else s.serial.sent) ∧
    (s.write 0xFF02#16 v).iflag = s.iflag

/-- OAM DMA: R135, R554 (decision D20, log entry 17). A write of `v` to 0xFF46 fills OAM with the 160 bytes at `v` × 256, read as if
nothing were blocked, from the state in which 0xFF46 already holds `v`; nothing else changes. -/
def Obligations.DmaCopiesAPageIntoOam : Prop :=
  ∀ (s : State) (v : Byte), ∃ m : Ram,
    s.write 0xFF46#16 v = { s with ppu := { s.ppu with dma := v }, oam := m } ∧
    (∀ i < 160, m.read .oam i =
      State.mmuRead false .data { s with ppu := { s.ppu with dma := v } } (BitVec.ofNat 16 (v.toNat * 256 + i))) ∧
    ∀ i : Nat, 160 ≤ i → m.read .oam i = s.oam.read .oam i

/-! ### The PPU and the Timer -/

/-- R451: the PPU's advance depends only on its own state, VRAM and OAM, whatever BLOCKING and every other part of the machine
hold, and changes only its own state and IF bits 0 and 1, which it never clears. (`draws` is the model's counter of free values,
log entries 2 and 9.) -/
def Obligations.PpuTouchesOnlyItsOwn : Prop :=
  ∀ (s s' : State) (c : Nat), s.ppu = s'.ppu → s.vram = s'.vram → s.oam = s'.oam → s.draws = s'.draws →
    ∃ (p : Ppu) (d : BitVec 5), d &&& 0b11100#5 = 0#5 ∧
      s.ppuAdvance c = { s with ppu := p, iflag := s.iflag ||| d } ∧
      s'.ppuAdvance c = { s' with ppu := p, iflag := s'.iflag ||| d }

/-- R463: entering mode 1 at line 144 sets IF bit 0 whatever STAT holds, and bit 1 too with STAT bit 4; no other tick of the
PPU sets bit 0. -/
def Obligations.VBlankIsRaisedAtLine144 : Prop :=
  ∀ (draw : Nat) (vram oam : Ram) (b : PpuBus),
    (b.ppu.ly = 143#8 ∧ b.ppu.modeCycles = 455 →
      (b.tick draw vram oam).ppu.ly = 144#8 ∧ (b.tick draw vram oam).ppu.mode = .vblank ∧
      (b.tick draw vram oam).iflag.getLsbD 0 = true ∧
      (b.ppu.statEnable.getLsbD 1 = true → (b.tick draw vram oam).iflag.getLsbD 1 = true)) ∧
    (¬(b.ppu.ly = 143#8 ∧ b.ppu.modeCycles = 455) →
      (b.tick draw vram oam).iflag.getLsbD 0 = b.iflag.getLsbD 0)

/-- The mode is the function of (`ly`, `modeCycles`) of the table of R462, and the ranges of R498 hold, after any number of
ticks from a state where they do. -/
def Obligations.ModeFollowsTheScanline : Prop :=
  ∀ (draw : Nat) (vram oam : Ram) (n : Nat) (b : PpuBus), b.ppu.Sound → b.ppu.modeIsOfPosition →
    (b.run draw vram oam n).ppu.Sound ∧ (b.run draw vram oam n).ppu.modeIsOfPosition

/-- R498: from `ly` = 0, `modeCycles` = 0, mode 2, exactly 70224 ticks make one frame: the PPU is there again, IF bit 0 and the
frame latch are set, first at tick 65664, and each row of the frame buffer holds what was rendered at tick 456 n + 252. The latch is
the spec's decision D38 (log entry 17). -/
def Obligations.OneFrameTakes70224Ticks : Prop :=
  ∀ (draw : Nat) (vram oam : Ram) (b : PpuBus),
    b.ppu.ly = 0x00#8 → b.ppu.modeCycles = 0 → b.ppu.mode = .oamSearch →
    (b.run draw vram oam 70224).ppu.ly = 0x00#8 ∧ (b.run draw vram oam 70224).ppu.modeCycles = 0 ∧
      (b.run draw vram oam 70224).ppu.mode = .oamSearch ∧ (b.run draw vram oam 70224).ppu.frameReadyLatch = true ∧
      (b.run draw vram oam 70224).iflag.getLsbD 0 = true ∧
      (∀ n < 65664, (b.run draw vram oam n).iflag.getLsbD 0 = b.iflag.getLsbD 0 ∧
        (b.run draw vram oam n).ppu.frameReadyLatch = b.ppu.frameReadyLatch) ∧
      (b.run draw vram oam 65664).iflag.getLsbD 0 = true ∧
      ∀ (n : Nat) (h : n < 144), (b.run draw vram oam 70224).ppu.frameBuffer[n] =
        (b.run draw vram oam (456 * n + 251)).ppu.lineShades draw vram oam

/-- LY, LYC, STAT and the sources of IF bit 1: R465, R466, R470, R471, R472. A write to LY makes it 0, a write to LYC stores it; both
recompute the coincidence flag, and IF bit 1 is set exactly on its rising edge with STAT bit 6; a write to STAT stores only bits 6:3
and raises nothing (decisions D23, D24, log entry 17; STAT bit 7 reading 1 is general knowledge of the spec, G17, log entry 16). A tick sets IF bit 1 exactly when, with its STAT bit, it enters mode 0 (bit
3), mode 1 (bit 4) or mode 2 (bit 5), or steps LY onto LYC with the flag clear (bit 6); it never clears it. -/
def Obligations.StatRegisterAndInterruptSources : Prop :=
  (∀ (s : State) (v : Byte),
    (∃ (p : Ppu) (m : BitVec 5), s.write 0xFF44#16 v = { s with ppu := p, iflag := m } ∧
      p = { s.ppu with ly := 0x00#8, coincidence := decide (s.ppu.lyc = 0x00#8) } ∧
      m = (if s.ppu.lyc = 0x00#8 ∧ s.ppu.coincidence = false ∧ s.ppu.statEnable.getLsbD 3 = true
        then s.iflag ||| 0b00010#5 else s.iflag)) ∧
    (∃ (p : Ppu) (m : BitVec 5), s.write 0xFF45#16 v = { s with ppu := p, iflag := m } ∧
      p = { s.ppu with lyc := v, coincidence := decide (s.ppu.ly = v) } ∧
      m = (if s.ppu.ly = v ∧ s.ppu.coincidence = false ∧ s.ppu.statEnable.getLsbD 3 = true
        then s.iflag ||| 0b00010#5 else s.iflag)) ∧
    (∃ k : BitVec 4, s.write 0xFF41#16 v = { s with ppu := { s.ppu with statEnable := k } } ∧
      k.toNat = v.toNat / 8 % 16) ∧
    ∀ site : ReadSite, s.readAt site 0xFF44#16 = s.ppu.ly ∧ (s.readAt site 0xFF41#16).toNat =
      128 + s.ppu.statEnable.toNat * 8 + (if s.ppu.coincidence then 4 else 0) +
        (match s.ppu.mode with | .hblank => 0 | .vblank => 1 | .oamSearch => 2 | .pixelTransfer => 3)) ∧
  ∀ (draw : Nat) (vram oam : Ram) (b : PpuBus),
    ((b.tick draw vram oam).iflag.getLsbD 1 = true ↔ b.iflag.getLsbD 1 = true ∨
      (b.ppu.statEnable.getLsbD 0 = true ∧ b.ppu.mode = .pixelTransfer ∧ b.ppu.modeCycles = 251) ∨
      (b.ppu.statEnable.getLsbD 1 = true ∧ b.ppu.modeCycles = 455 ∧ b.ppu.ly = 143#8) ∨
      (b.ppu.statEnable.getLsbD 2 = true ∧ b.ppu.modeCycles = 455 ∧ (b.ppu.ly.toNat + 1) % 154 < 144) ∨
      (b.ppu.statEnable.getLsbD 3 = true ∧ b.ppu.modeCycles = 455 ∧ b.ppu.coincidence = false ∧
        (b.ppu.ly.toNat + 1) % 154 = b.ppu.lyc.toNat)) ∧
    (b.ppu.modeCycles = 455 → (b.tick draw vram oam).ppu.ly.toNat = (b.ppu.ly.toNat + 1) % 154 ∧
      (b.tick draw vram oam).ppu.coincidence = decide ((b.ppu.ly.toNat + 1) % 154 = b.ppu.lyc.toNat))

/-- `RenderScanline` (R480, R495) writes the row of its line in full and the window line counter, nothing else; with the
background off and no sprites the row is shade 0. Shades after the palette and the shade 0 are the spec's decision D26, the condition
of the window (LCDC bit 0, WX at most 166) D27, its line counter D25 (log entry 17). -/
def Obligations.RenderingWritesOneRow : Prop :=
  ∀ (draw : Nat) (vram oam : Ram) (p : Ppu), p.ly.toNat < 144 →
    ∃ (fb : FrameBuffer) (w : Nat), p.renderScanline draw vram oam = { p with frameBuffer := fb, windowLine := w } ∧
      (∀ (n : Nat) (h : n < 144), n ≠ p.ly.toNat → fb[n] = p.frameBuffer[n]) ∧
      (∀ h : p.ly.toNat < 144, fb[p.ly.toNat] = p.lineShades draw vram oam) ∧
      w = (if p.lcdc.getLsbD 5 = true ∧ p.lcdc.getLsbD 0 = true ∧ p.wy.toNat ≤ p.ly.toNat ∧ p.wx.toNat ≤ 166
        then p.windowLine + 1 else p.windowLine) ∧
      (p.lcdc.getLsbD 0 = false → p.lcdc.getLsbD 1 = false →
        ∀ (n : Nat) (h : n < 160), (p.lineShades draw vram oam)[n] = 0#2)

/-- The layer under the sprites: R481, R482, R483, R486. Where no sprite is drawn each column shows `layerShade`: the window's map at
(column + 7 - WX, window line) where the window covers, else the background's map at ((SCX + column) mod 256, (SCY + LY) mod 256),
through BGP; shade 0 with LCDC bit 0 clear. The map and tile geometry is general knowledge of the spec (G15, log entry 16); that the
window needs LCDC bit 0 and the shade 0 are its decisions D27 and D26, plane 1 as the high bit D29 (log entry 17). A window line
past 255 indexes past the maps, where the spec gives no result (log entry 9). -/
def Obligations.LayerPixelsComeFromTheirMaps : Prop :=
  ∀ (draw : Nat) (vram oam : Ram) (p : Ppu) (col : Nat) (h : col < 160), p.lcdc.getLsbD 1 = false →
    (p.lcdc.getLsbD 5 = true → p.windowLine < 256) →
    ((p.lineShades draw vram oam)[col]).toNat = layerShade vram p col

/-- Sprite selection: R490. The selected entries are on the line, at most ten, in OAM order, and an entry on the line is left out
only when ten earlier ones are on the line. Priority: R492. The winner of a column is a selected sprite that covers it with an index
other than 0 (`spritePixel`, R491), of least X, the earlier OAM entry where X is equal; there is none only where no sprite
qualifies. Mixing: R492, R495. The column shows the winner through its palette, or the layer under it where there is no winner or
the winner stands behind a layer index other than 0. The OAM layout, the flip bits and the 8 × 16 pair are general knowledge of the
spec (G14, G15, log entry 16); X playing no part in the selection, transparent sprites skipped and a hidden winner letting none
through are its decision D28, plane 1 as the high bit D29 (log entry 17); for the window line log entry 9. -/
def Obligations.SpritesAreSelectedRankedAndMixed : Prop :=
  (∀ (oam : Ram) (p : Ppu),
      (p.selectSprites oam).length ≤ 10 ∧ (p.selectSprites oam).Pairwise (· < ·) ∧
      (∀ k ∈ p.selectSprites oam, k < 40 ∧ (oam.read .oam (4 * k)).toNat ≤ p.ly.toNat + 16 ∧
        p.ly.toNat + 16 < (oam.read .oam (4 * k)).toNat + (if p.lcdc.getLsbD 2 then 16 else 8)) ∧
      ∀ k < 40, (oam.read .oam (4 * k)).toNat ≤ p.ly.toNat + 16 →
        p.ly.toNat + 16 < (oam.read .oam (4 * k)).toNat + (if p.lcdc.getLsbD 2 then 16 else 8) →
        k ∉ p.selectSprites oam → (p.selectSprites oam).length = 10 ∧ ∀ j ∈ p.selectSprites oam, j < k) ∧
  (∀ (draw : Nat) (vram oam : Ram) (p : Ppu) (col : Nat),
    let candidates := (p.selectSprites oam).filter fun k =>
      decide ((oam.read .oam (4 * k + 1)).toNat ≤ col + 8 ∧ col + 8 < (oam.read .oam (4 * k + 1)).toNat + 8 ∧
        spritePixel vram oam p k col ≠ 0)
    (p.winningSprite draw vram oam (p.selectSprites oam) col = none ↔ candidates = []) ∧
    ∀ k, p.winningSprite draw vram oam (p.selectSprites oam) col = some k →
      k ∈ candidates ∧ ∀ j ∈ candidates, (oam.read .oam (4 * k + 1)).toNat < (oam.read .oam (4 * j + 1)).toNat ∨
        ((oam.read .oam (4 * k + 1)).toNat = (oam.read .oam (4 * j + 1)).toNat ∧ k ≤ j)) ∧
  ∀ (draw : Nat) (vram oam : Ram) (p : Ppu) (col : Nat) (h : col < 160), p.lcdc.getLsbD 1 = true →
    (p.lcdc.getLsbD 5 = true → p.windowLine < 256) →
    (p.winningSprite draw vram oam (p.selectSprites oam) col = none →
      ((p.lineShades draw vram oam)[col]).toNat = layerShade vram p col) ∧
    ∀ k, p.winningSprite draw vram oam (p.selectSprites oam) col = some k →
      ((p.lineShades draw vram oam)[col]).toNat =
        if (oam.read .oam (4 * k + 3)).getLsbD 7 = true ∧ layerPixel vram p col ≠ 0 then layerShade vram p col
        else (if (oam.read .oam (4 * k + 3)).getLsbD 4 then p.obp1 else p.obp0).toNat / 4 ^ spritePixel vram oam p k col % 4

/-- R521: the four rates and the enable bit. With TAC bit 2 clear TIMA holds its value; DIV counts always. R522, R524: with it set, from
a multiple of the period, TIMA changes exactly once in a period. The accumulator is the spec's decision D33 (log entry 17). -/
def Obligations.TimerCountsAtTheSelectedRate : Prop :=
  timerPeriod 0b00#8 = 1024 ∧ timerPeriod 0b01#8 = 16 ∧ timerPeriod 0b10#8 = 64 ∧ timerPeriod 0b11#8 = 256 ∧
  (∀ tac tac' : Byte, tac.toNat % 4 = tac'.toNat % 4 → timerPeriod tac = timerPeriod tac') ∧
  (∀ (b : TimerBus) (n : Nat), (b.run n).timer.divCounter.toNat = (b.timer.divCounter.toNat + n) % 65536) ∧
  (∀ (b : TimerBus) (n : Nat), b.timer.tac.getLsbD 2 = false →
    (b.run n).timer.tima = b.timer.tima ∧ (b.run n).iflag = b.iflag) ∧
  ∀ b : TimerBus, b.timer.tac.getLsbD 2 = true → b.timer.timaAcc = 0 →
    (∀ n < timerPeriod b.timer.tac, (b.run n).timer.tima = b.timer.tima) ∧
    (b.run (timerPeriod b.timer.tac)).timer.tima = (if b.timer.tima = 0xFF#8 then b.timer.tma else b.timer.tima + 1#8) ∧
    (b.run (timerPeriod b.timer.tac)).timer.timaAcc = 0

/-- The Timer interrupt: R522, R524 "The interrupt period in T-cycles is `Period × (256 − TMA)`". From a reload, with the timer
enabled, the next overflow is at exactly that tick: TIMA is TMA again, IF bit 2 is set then and not before, and no other IF bit
changes. The accumulator is the spec's decision D33 (log entry 17). -/
def Obligations.TimerOverflowsEveryPeriod : Prop :=
  ∀ b : TimerBus, b.timer.tac.getLsbD 2 = true → b.timer.timaAcc = 0 → b.timer.tima = b.timer.tma →
    (b.run (timerPeriod b.timer.tac * (256 - b.timer.tma.toNat))).timer.tima = b.timer.tma ∧
    (b.run (timerPeriod b.timer.tac * (256 - b.timer.tma.toNat))).timer.timaAcc = 0 ∧
    (b.run (timerPeriod b.timer.tac * (256 - b.timer.tma.toNat))).iflag = b.iflag ||| 0b00100#5 ∧
    ∀ n < timerPeriod b.timer.tac * (256 - b.timer.tma.toNat), (b.run n).iflag = b.iflag

/-- R526: DIV reads the upper byte of the counter; a write of any value resets all 16 bits and nothing else; the Timer then
advances from zero by the writing step's cycle count. That the accumulator of TIMA is kept is the spec's decision D33 (R522), and the
cost 12 of LDH (n),A its general knowledge (R214, R570, G5, decision D31; log entries 5, 16 and 17). -/
def Obligations.DivWriteResetsTheCounter : Prop :=
  ∀ (s : State) (v : Byte) (site : ReadSite),
    (s.readAt site 0xFF04#16).toNat = s.timer.divCounter.toNat / 256 ∧
    s.write 0xFF04#16 v = { s with timer := { s.timer with divCounter := 0#16 } } ∧
    (∀ c : Nat, ((s.write 0xFF04#16 v).timerAdvance c).timer.divCounter.toNat = c % 65536) ∧
    (s.params.cycles = [] → ∃ t, exec (.ldh_atN8_a 0x04#8) s = .next t ∧ t.timer.divCounter = 0#16 ∧ t.cost = 12)

/-- The Timer's advance (R522, R95) changes only its own registers and IF bit 2, which it never clears, and may be split:
`TimerStep(a); TimerStep(b)` is `TimerStep(a + b)`; so may the PPU's (R460). The accumulator is the spec's decision D33 (log entry
17). -/
def Obligations.DeviceAdvanceSplits : Prop :=
  (∀ (s : State) (c : Nat), ∃ (t : Timer) (d : BitVec 5), d &&& 0b11011#5 = 0#5 ∧
    s.timerAdvance c = { s with timer := t, iflag := s.iflag ||| d }) ∧
  (∀ (s : State) (a b : Nat), (s.timerAdvance a).timerAdvance b = s.timerAdvance (a + b)) ∧
  ∀ (s : State) (a b : Nat), (s.ppuAdvance a).ppuAdvance b = s.ppuAdvance (a + b)
end

