-- ==== Sys2Proof/Laws/Devices.lean ====
section
/-! SUPPORT. What one tick of the PPU and of the Timer does, and what an offset in 0xFF00 to 0xFF7F names. -/

namespace Sys2Proof.Machine

/-- Every case of a PPU tick: the end of the line, the ends of modes 2 and 3, or the counter alone. -/
theorem PpuBus.tick_cases (draw : Nat) (vram oam : Ram) (b : PpuBus) :
    (b.ppu.modeCycles = 455 ∧
      b.tick draw vram oam = PpuBus.nextLine { b with ppu := { b.ppu with modeCycles := b.ppu.modeCycles + 1 } }) ∨
    (b.ppu.modeCycles ≠ 455 ∧ b.ppu.mode = .oamSearch ∧ b.ppu.modeCycles = 79 ∧
      b.tick draw vram oam =
        PpuBus.enterMode .pixelTransfer { b with ppu := { b.ppu with modeCycles := b.ppu.modeCycles + 1 } }) ∨
    (b.ppu.modeCycles ≠ 455 ∧ b.ppu.mode = .pixelTransfer ∧ b.ppu.modeCycles = 251 ∧
      b.tick draw vram oam =
        PpuBus.enterMode .hblank
          { b with ppu := Ppu.renderScanline draw vram oam { b.ppu with modeCycles := b.ppu.modeCycles + 1 } }) ∨
    (b.ppu.modeCycles ≠ 455 ∧ ¬(b.ppu.mode = .oamSearch ∧ b.ppu.modeCycles = 79) ∧
      ¬(b.ppu.mode = .pixelTransfer ∧ b.ppu.modeCycles = 251) ∧
      b.tick draw vram oam = { b with ppu := { b.ppu with modeCycles := b.ppu.modeCycles + 1 } }) := by
  unfold PpuBus.tick
  dsimp only
  by_cases h1 : b.ppu.modeCycles = 455
  · exact .inl ⟨h1, by rw [if_pos (by omega)]⟩
  · rw [if_neg (by omega)]
    by_cases h2 : b.ppu.mode = .oamSearch ∧ b.ppu.modeCycles = 79
    · exact .inr (.inl ⟨h1, h2.1, h2.2, by rw [if_pos ⟨h2.1, by omega⟩]⟩)
    · rw [if_neg (fun h => h2 ⟨h.1, by omega⟩)]
      by_cases h3 : b.ppu.mode = .pixelTransfer ∧ b.ppu.modeCycles = 251
      · exact .inr (.inr (.inl ⟨h1, h3.1, h3.2, by rw [if_pos ⟨h3.1, by omega⟩]⟩))
      · exact .inr (.inr (.inr ⟨h1, h2, h3, by rw [if_neg (fun h => h3 ⟨h.1, by omega⟩)]⟩))

/-- The PPU after the end of a line: which fields move, and to what. -/
theorem PpuBus.nextLine_ppu (b : PpuBus) :
    b.nextLine.ppu =
      let v : Byte := BitVec.ofNat 8 ((b.ppu.ly.toNat + 1) % 154)
      { b.ppu with
        modeCycles := 0
        ly := v
        coincidence := decide (v = b.ppu.lyc)
        mode := if v = 144#8 then .vblank else if v < 144#8 then .oamSearch else b.ppu.mode
        windowLine := if v = 144#8 then 0 else b.ppu.windowLine
        frameReadyLatch := if v = 144#8 then true else b.ppu.frameReadyLatch } := by
  unfold PpuBus.nextLine PpuBus.setLy PpuBus.updateCoincidence PpuBus.enterMode
  dsimp only
  by_cases h1 : (BitVec.ofNat 8 ((b.ppu.ly.toNat + 1) % 154) : Byte) = 144#8
  · simp only [h1, if_true]
  · by_cases h2 : (BitVec.ofNat 8 ((b.ppu.ly.toNat + 1) % 154) : Byte) < 144#8
    · simp only [h1, h2, if_true, if_false]
    · simp only [h1, h2, if_false]

/-- A mode entry leaves bit 0 of IF, and bits 2 to 4. -/
theorem PpuBus.enterMode_iflag (m : PpuMode) (b : PpuBus) :
    (b.enterMode m).iflag = b.iflag ∨ (b.enterMode m).iflag = b.iflag ||| 0b00010#5 := by
  unfold PpuBus.enterMode
  dsimp only
  split
  · exact .inr rfl
  · exact .inl rfl

/-- A new coincidence flag leaves bit 0 of IF, and bits 2 to 4. -/
theorem PpuBus.updateCoincidence_iflag (b : PpuBus) :
    b.updateCoincidence.iflag = b.iflag ∨ b.updateCoincidence.iflag = b.iflag ||| 0b00010#5 := by
  unfold PpuBus.updateCoincidence
  dsimp only
  split
  · exact .inr rfl
  · exact .inl rfl

/-- Every case of a Timer tick: off, below the period, or an increment of TIMA. -/
theorem TimerBus.tick_cases (b : TimerBus) :
    (timerEnabled b.timer.tac = false ∧
      b.tick = { b with timer := { b.timer with divCounter := b.timer.divCounter + 1#16 } }) ∨
    (timerEnabled b.timer.tac = true ∧ b.timer.timaAcc + 1 < timerPeriod b.timer.tac ∧
      b.tick =
        { b with
          timer := { b.timer with divCounter := b.timer.divCounter + 1#16, timaAcc := b.timer.timaAcc + 1 } }) ∨
    (timerEnabled b.timer.tac = true ∧ timerPeriod b.timer.tac ≤ b.timer.timaAcc + 1 ∧
      b.tick =
        TimerBus.incTima
          { b with
            timer :=
              { b.timer with
                divCounter := b.timer.divCounter + 1#16
                timaAcc := b.timer.timaAcc + 1 - timerPeriod b.timer.tac } }) := by
  unfold TimerBus.tick
  dsimp only
  cases h : timerEnabled b.timer.tac
  · exact .inl ⟨rfl, rfl⟩
  · rw [if_pos rfl]
    by_cases h2 : timerPeriod b.timer.tac ≤ b.timer.timaAcc + 1
    · exact .inr (.inr ⟨rfl, h2, by rw [if_pos h2]⟩)
    · exact .inr (.inl ⟨rfl, by omega, by rw [if_neg h2]⟩)

/-- The period is one of the four of R521. -/
theorem timerPeriod_cases (tac : Byte) :
    timerPeriod tac = 1024 ∨ timerPeriod tac = 16 ∨ timerPeriod tac = 64 ∨ timerPeriod tac = 256 := by
  unfold timerPeriod
  split <;> simp

/-- What an offset names: one of the twenty registers at its own offset, or a plain backing byte. -/
theorem ioRegOf_cases (n : Nat) :
    (ioRegOf n = .joyp ∧ n = 0x00) ∨ (ioRegOf n = .sb ∧ n = 0x01) ∨ (ioRegOf n = .sc ∧ n = 0x02) ∨
    (ioRegOf n = .div ∧ n = 0x04) ∨ (ioRegOf n = .tima ∧ n = 0x05) ∨ (ioRegOf n = .tma ∧ n = 0x06) ∨
    (ioRegOf n = .tac ∧ n = 0x07) ∨ (ioRegOf n = .iflag ∧ n = 0x0F) ∨ (ioRegOf n = .lcdc ∧ n = 0x40) ∨
    (ioRegOf n = .stat ∧ n = 0x41) ∨ (ioRegOf n = .scy ∧ n = 0x42) ∨ (ioRegOf n = .scx ∧ n = 0x43) ∨
    (ioRegOf n = .ly ∧ n = 0x44) ∨ (ioRegOf n = .lyc ∧ n = 0x45) ∨ (ioRegOf n = .dma ∧ n = 0x46) ∨
    (ioRegOf n = .bgp ∧ n = 0x47) ∨ (ioRegOf n = .obp0 ∧ n = 0x48) ∨ (ioRegOf n = .obp1 ∧ n = 0x49) ∨
    (ioRegOf n = .wy ∧ n = 0x4A) ∨ (ioRegOf n = .wx ∧ n = 0x4B) ∨ ioRegOf n = .backing n := by
  by_cases h : n < 0x4C
  · interval_cases n <;> decide
  · iterate 20 right
    unfold ioRegOf
    iterate 20 rw [if_neg (by omega)]

end Sys2Proof.Machine
end

