-- ==== Sys2Proof/Laws/Exec.lean ====
section
/-! SUPPORT. What `exec` runs for each family of rows: the family's shared operation, under the key of the row's opcode byte
as the fields of 30_encoding.md R162 make it up. A row outside the families below is its shared operation by `rfl`. -/

namespace Sys2Proof.Machine

variable (s : State)

/-- `LD r,r'` (R200). -/
theorem exec_ldRegReg (dst src : Reg8) :
    exec (.ldRegReg dst src) s = loadRegReg (.base (0b01#2 ++ dst.code ++ src.code)) dst src s := by
  cases dst <;> cases src <;> rfl

/-- `LD r,n` (R201). -/
theorem exec_ldRegImm (dst : Reg8) (n : Byte) :
    exec (.ldRegImm dst n) s = loadRegImm (.base (0b00#2 ++ dst.code ++ 0b110#3)) dst n s := by
  cases dst <;> rfl

/-- `LD r,(HL)` (R202). -/
theorem exec_ldRegMem (dst : Reg8) :
    exec (.ldRegMem dst) s = loadRegMem (.base (0b01#2 ++ dst.code ++ 0b110#3)) dst s := by
  cases dst <;> rfl

/-- `LD (HL),r` (R203). -/
theorem exec_ldMemReg (src : Reg8) :
    exec (.ldMemReg src) s = storeMemReg (.base (0b01110#5 ++ src.code)) src s := by
  cases src <;> rfl

/-- `LD rr,nn` (R230). -/
theorem exec_ldPairImm (p : RegPair) (nn : Word) :
    exec (.ldPairImm p nn) s = loadPairImm (.base (0b00#2 ++ p.code ++ 0b0001#4)) p nn s := by
  cases p <;> rfl

/-- `PUSH rr` (R233). -/
theorem exec_push (p : StackPair) :
    exec (.push p) s = pushPair (.base (0b11#2 ++ p.code ++ 0b0101#4)) p s := by
  cases p <;> rfl

/-- `POP rr` (R234). -/
theorem exec_pop (p : StackPair) :
    exec (.pop p) s = popPair (.base (0b11#2 ++ p.code ++ 0b0001#4)) p s := by
  cases p <;> rfl

/-- The ALU operations on a register (R253 to R274). -/
theorem exec_aluReg (op : AluOp) (r : Reg8) :
    exec (.aluReg op r) s = aluReg (.base (0b10#2 ++ op.code ++ r.code)) op r s := by
  cases op <;> cases r <;> rfl

/-- The ALU operations on (HL) (R254 to R275). -/
theorem exec_aluMem (op : AluOp) :
    exec (.aluMem op) s = aluMem (.base (0b10#2 ++ op.code ++ 0b110#3)) op s := by
  cases op <;> rfl

/-- The ALU operations on an immediate (R255 to R276). -/
theorem exec_aluImm (op : AluOp) (n : Byte) :
    exec (.aluImm op n) s = aluImm (.base (0b11#2 ++ op.code ++ 0b110#3)) op n s := by
  cases op <;> rfl

/-- `INC r` (R277). -/
theorem exec_incReg (r : Reg8) :
    exec (.incReg r) s = incReg (.base (0b00#2 ++ r.code ++ 0b100#3)) r s := by
  cases r <;> rfl

/-- `DEC r` (R279). -/
theorem exec_decReg (r : Reg8) :
    exec (.decReg r) s = decReg (.base (0b00#2 ++ r.code ++ 0b101#3)) r s := by
  cases r <;> rfl

/-- `ADD HL,rr` (R290). -/
theorem exec_addHl (p : RegPair) :
    exec (.addHl p) s = addHlPair (.base (0b00#2 ++ p.code ++ 0b1001#4)) p s := by
  cases p <;> rfl

/-- `INC rr` (R291). -/
theorem exec_incPair (p : RegPair) :
    exec (.incPair p) s = incPair (.base (0b00#2 ++ p.code ++ 0b0011#4)) p s := by
  cases p <;> rfl

/-- `DEC rr` (R292). -/
theorem exec_decPair (p : RegPair) :
    exec (.decPair p) s = decPair (.base (0b00#2 ++ p.code ++ 0b1011#4)) p s := by
  cases p <;> rfl

/-- The rotates and shifts of the `cb` table (R306). -/
theorem exec_rot (kind : RotKind) (t : Target8) :
    exec (.rot kind t) s = rotTarget (.cb (0b00#2 ++ kind.code ++ t.code)) kind t s := by
  rcases t with r | _ <;> cases kind <;> first | rfl | (cases r <;> rfl)

/-- `BIT b` (R323, R324). -/
theorem exec_bit (b : Fin 8) (t : Target8) :
    exec (.bit b t) s = bitTarget (.cb (0b01#2 ++ BitVec.ofNat 3 b ++ t.code)) b t s := by
  rcases t with r | _ <;> fin_cases b <;> first | rfl | (cases r <;> rfl)

/-- `RES b` (R325, R326). -/
theorem exec_res (b : Fin 8) (t : Target8) :
    exec (.res b t) s = resTarget (.cb (0b10#2 ++ BitVec.ofNat 3 b ++ t.code)) b t s := by
  rcases t with r | _ <;> fin_cases b <;> first | rfl | (cases r <;> rfl)

/-- `SET b` (R327, R328). -/
theorem exec_set (b : Fin 8) (t : Target8) :
    exec (.set b t) s = setTarget (.cb (0b11#2 ++ BitVec.ofNat 3 b ++ t.code)) b t s := by
  rcases t with r | _ <;> fin_cases b <;> first | rfl | (cases r <;> rfl)

/-- `JP cc,nn` (R331). -/
theorem exec_jpCond (cc : Cond) (nn : Word) :
    exec (.jpCond cc nn) s = jumpAbsCond (.base (0b110#3 ++ cc.code ++ 0b010#3)) cc nn s := by
  cases cc <;> rfl

/-- `JR cc,e` (R334). -/
theorem exec_jrCond (cc : Cond) (e : Byte) :
    exec (.jrCond cc e) s = jumpRelCond (.base (0b001#3 ++ cc.code ++ 0b000#3)) cc e s := by
  cases cc <;> rfl

/-- `CALL cc,nn` (R336). -/
theorem exec_callCond (cc : Cond) (nn : Word) :
    exec (.callCond cc nn) s = callCond (.base (0b110#3 ++ cc.code ++ 0b100#3)) cc nn s := by
  cases cc <;> rfl

/-- `RET cc` (R338). -/
theorem exec_retCond (cc : Cond) :
    exec (.retCond cc) s = returnCond (.base (0b110#3 ++ cc.code ++ 0b000#3)) cc s := by
  cases cc <;> rfl

/-- `RST t` (R340). -/
theorem exec_rst (t : Fin 8) :
    exec (.rst t) s = restart (.base (0b11#2 ++ BitVec.ofNat 3 t ++ 0b111#3)) t s := by
  fin_cases t <;> rfl

/-- The undefined opcodes (R365). -/
theorem exec_illegal (b : IllegalByte) :
    exec (.illegal b) s = illegalOp b.byte s := by
  cases b <;> rfl

end Sys2Proof.Machine
end

