-- ==== Sys2Proof/Laws/State.lean ====
section
/-! SUPPORT. What each update of the state leaves in each field: one lemma for each field and update, all by `rfl`. -/

namespace Sys2Proof.Machine

variable (s : State)

/-! ### `setF` -/

@[simp] theorem State.setF_cpu_a (v : Byte) : (s.setF v).cpu.a = s.cpu.a := rfl
@[simp] theorem State.setF_cpu_f (v : Byte) : (s.setF v).cpu.f = v &&& 0xF0#8 := rfl
@[simp] theorem State.setF_cpu_b (v : Byte) : (s.setF v).cpu.b = s.cpu.b := rfl
@[simp] theorem State.setF_cpu_c (v : Byte) : (s.setF v).cpu.c = s.cpu.c := rfl
@[simp] theorem State.setF_cpu_d (v : Byte) : (s.setF v).cpu.d = s.cpu.d := rfl
@[simp] theorem State.setF_cpu_e (v : Byte) : (s.setF v).cpu.e = s.cpu.e := rfl
@[simp] theorem State.setF_cpu_h (v : Byte) : (s.setF v).cpu.h = s.cpu.h := rfl
@[simp] theorem State.setF_cpu_l (v : Byte) : (s.setF v).cpu.l = s.cpu.l := rfl
@[simp] theorem State.setF_cpu_sp (v : Byte) : (s.setF v).cpu.sp = s.cpu.sp := rfl
@[simp] theorem State.setF_cpu_pc (v : Byte) : (s.setF v).cpu.pc = s.cpu.pc := rfl
@[simp] theorem State.setF_cpu_ime (v : Byte) : (s.setF v).cpu.ime = s.cpu.ime := rfl
@[simp] theorem State.setF_cpu_pendingIme (v : Byte) : (s.setF v).cpu.pendingIme = s.cpu.pendingIme := rfl
@[simp] theorem State.setF_cpu_halted (v : Byte) : (s.setF v).cpu.halted = s.cpu.halted := rfl
@[simp] theorem State.setF_cpu_haltBug (v : Byte) : (s.setF v).cpu.haltBug = s.cpu.haltBug := rfl
@[simp] theorem State.setF_cpu_locked (v : Byte) : (s.setF v).cpu.locked = s.cpu.locked := rfl
@[simp] theorem State.setF_ie (v : Byte) : (s.setF v).ie = s.ie := rfl
@[simp] theorem State.setF_iflag (v : Byte) : (s.setF v).iflag = s.iflag := rfl
@[simp] theorem State.setF_rom (v : Byte) : (s.setF v).rom = s.rom := rfl
@[simp] theorem State.setF_extRam (v : Byte) : (s.setF v).extRam = s.extRam := rfl
@[simp] theorem State.setF_vram (v : Byte) : (s.setF v).vram = s.vram := rfl
@[simp] theorem State.setF_wram (v : Byte) : (s.setF v).wram = s.wram := rfl
@[simp] theorem State.setF_oam (v : Byte) : (s.setF v).oam = s.oam := rfl
@[simp] theorem State.setF_hram (v : Byte) : (s.setF v).hram = s.hram := rfl
@[simp] theorem State.setF_io (v : Byte) : (s.setF v).io = s.io := rfl
@[simp] theorem State.setF_mbc (v : Byte) : (s.setF v).mbc = s.mbc := rfl
@[simp] theorem State.setF_joypad (v : Byte) : (s.setF v).joypad = s.joypad := rfl
@[simp] theorem State.setF_serial (v : Byte) : (s.setF v).serial = s.serial := rfl
@[simp] theorem State.setF_timer (v : Byte) : (s.setF v).timer = s.timer := rfl
@[simp] theorem State.setF_ppu (v : Byte) : (s.setF v).ppu = s.ppu := rfl
@[simp] theorem State.setF_params (v : Byte) : (s.setF v).params = s.params := rfl
@[simp] theorem State.setF_cost (v : Byte) : (s.setF v).cost = s.cost := rfl
@[simp] theorem State.setF_draws (v : Byte) : (s.setF v).draws = s.draws := rfl
@[simp] theorem State.setF_inputs (v : Byte) : (s.setF v).inputs = s.inputs := rfl

/-! ### `setA` -/

@[simp] theorem State.setA_cpu_a (v : Byte) : (s.setA v).cpu.a = v := rfl
@[simp] theorem State.setA_cpu_f (v : Byte) : (s.setA v).cpu.f = s.cpu.f := rfl
@[simp] theorem State.setA_cpu_b (v : Byte) : (s.setA v).cpu.b = s.cpu.b := rfl
@[simp] theorem State.setA_cpu_c (v : Byte) : (s.setA v).cpu.c = s.cpu.c := rfl
@[simp] theorem State.setA_cpu_d (v : Byte) : (s.setA v).cpu.d = s.cpu.d := rfl
@[simp] theorem State.setA_cpu_e (v : Byte) : (s.setA v).cpu.e = s.cpu.e := rfl
@[simp] theorem State.setA_cpu_h (v : Byte) : (s.setA v).cpu.h = s.cpu.h := rfl
@[simp] theorem State.setA_cpu_l (v : Byte) : (s.setA v).cpu.l = s.cpu.l := rfl
@[simp] theorem State.setA_cpu_sp (v : Byte) : (s.setA v).cpu.sp = s.cpu.sp := rfl
@[simp] theorem State.setA_cpu_pc (v : Byte) : (s.setA v).cpu.pc = s.cpu.pc := rfl
@[simp] theorem State.setA_cpu_ime (v : Byte) : (s.setA v).cpu.ime = s.cpu.ime := rfl
@[simp] theorem State.setA_cpu_pendingIme (v : Byte) : (s.setA v).cpu.pendingIme = s.cpu.pendingIme := rfl
@[simp] theorem State.setA_cpu_halted (v : Byte) : (s.setA v).cpu.halted = s.cpu.halted := rfl
@[simp] theorem State.setA_cpu_haltBug (v : Byte) : (s.setA v).cpu.haltBug = s.cpu.haltBug := rfl
@[simp] theorem State.setA_cpu_locked (v : Byte) : (s.setA v).cpu.locked = s.cpu.locked := rfl
@[simp] theorem State.setA_ie (v : Byte) : (s.setA v).ie = s.ie := rfl
@[simp] theorem State.setA_iflag (v : Byte) : (s.setA v).iflag = s.iflag := rfl
@[simp] theorem State.setA_rom (v : Byte) : (s.setA v).rom = s.rom := rfl
@[simp] theorem State.setA_extRam (v : Byte) : (s.setA v).extRam = s.extRam := rfl
@[simp] theorem State.setA_vram (v : Byte) : (s.setA v).vram = s.vram := rfl
@[simp] theorem State.setA_wram (v : Byte) : (s.setA v).wram = s.wram := rfl
@[simp] theorem State.setA_oam (v : Byte) : (s.setA v).oam = s.oam := rfl
@[simp] theorem State.setA_hram (v : Byte) : (s.setA v).hram = s.hram := rfl
@[simp] theorem State.setA_io (v : Byte) : (s.setA v).io = s.io := rfl
@[simp] theorem State.setA_mbc (v : Byte) : (s.setA v).mbc = s.mbc := rfl
@[simp] theorem State.setA_joypad (v : Byte) : (s.setA v).joypad = s.joypad := rfl
@[simp] theorem State.setA_serial (v : Byte) : (s.setA v).serial = s.serial := rfl
@[simp] theorem State.setA_timer (v : Byte) : (s.setA v).timer = s.timer := rfl
@[simp] theorem State.setA_ppu (v : Byte) : (s.setA v).ppu = s.ppu := rfl
@[simp] theorem State.setA_params (v : Byte) : (s.setA v).params = s.params := rfl
@[simp] theorem State.setA_cost (v : Byte) : (s.setA v).cost = s.cost := rfl
@[simp] theorem State.setA_draws (v : Byte) : (s.setA v).draws = s.draws := rfl
@[simp] theorem State.setA_inputs (v : Byte) : (s.setA v).inputs = s.inputs := rfl

/-! ### `setBc` -/

@[simp] theorem State.setBc_cpu_a (w : Word) : (s.setBc w).cpu.a = s.cpu.a := rfl
@[simp] theorem State.setBc_cpu_f (w : Word) : (s.setBc w).cpu.f = s.cpu.f := rfl
@[simp] theorem State.setBc_cpu_b (w : Word) : (s.setBc w).cpu.b = hiByte w := rfl
@[simp] theorem State.setBc_cpu_c (w : Word) : (s.setBc w).cpu.c = loByte w := rfl
@[simp] theorem State.setBc_cpu_d (w : Word) : (s.setBc w).cpu.d = s.cpu.d := rfl
@[simp] theorem State.setBc_cpu_e (w : Word) : (s.setBc w).cpu.e = s.cpu.e := rfl
@[simp] theorem State.setBc_cpu_h (w : Word) : (s.setBc w).cpu.h = s.cpu.h := rfl
@[simp] theorem State.setBc_cpu_l (w : Word) : (s.setBc w).cpu.l = s.cpu.l := rfl
@[simp] theorem State.setBc_cpu_sp (w : Word) : (s.setBc w).cpu.sp = s.cpu.sp := rfl
@[simp] theorem State.setBc_cpu_pc (w : Word) : (s.setBc w).cpu.pc = s.cpu.pc := rfl
@[simp] theorem State.setBc_cpu_ime (w : Word) : (s.setBc w).cpu.ime = s.cpu.ime := rfl
@[simp] theorem State.setBc_cpu_pendingIme (w : Word) : (s.setBc w).cpu.pendingIme = s.cpu.pendingIme := rfl
@[simp] theorem State.setBc_cpu_halted (w : Word) : (s.setBc w).cpu.halted = s.cpu.halted := rfl
@[simp] theorem State.setBc_cpu_haltBug (w : Word) : (s.setBc w).cpu.haltBug = s.cpu.haltBug := rfl
@[simp] theorem State.setBc_cpu_locked (w : Word) : (s.setBc w).cpu.locked = s.cpu.locked := rfl
@[simp] theorem State.setBc_ie (w : Word) : (s.setBc w).ie = s.ie := rfl
@[simp] theorem State.setBc_iflag (w : Word) : (s.setBc w).iflag = s.iflag := rfl
@[simp] theorem State.setBc_rom (w : Word) : (s.setBc w).rom = s.rom := rfl
@[simp] theorem State.setBc_extRam (w : Word) : (s.setBc w).extRam = s.extRam := rfl
@[simp] theorem State.setBc_vram (w : Word) : (s.setBc w).vram = s.vram := rfl
@[simp] theorem State.setBc_wram (w : Word) : (s.setBc w).wram = s.wram := rfl
@[simp] theorem State.setBc_oam (w : Word) : (s.setBc w).oam = s.oam := rfl
@[simp] theorem State.setBc_hram (w : Word) : (s.setBc w).hram = s.hram := rfl
@[simp] theorem State.setBc_io (w : Word) : (s.setBc w).io = s.io := rfl
@[simp] theorem State.setBc_mbc (w : Word) : (s.setBc w).mbc = s.mbc := rfl
@[simp] theorem State.setBc_joypad (w : Word) : (s.setBc w).joypad = s.joypad := rfl
@[simp] theorem State.setBc_serial (w : Word) : (s.setBc w).serial = s.serial := rfl
@[simp] theorem State.setBc_timer (w : Word) : (s.setBc w).timer = s.timer := rfl
@[simp] theorem State.setBc_ppu (w : Word) : (s.setBc w).ppu = s.ppu := rfl
@[simp] theorem State.setBc_params (w : Word) : (s.setBc w).params = s.params := rfl
@[simp] theorem State.setBc_cost (w : Word) : (s.setBc w).cost = s.cost := rfl
@[simp] theorem State.setBc_draws (w : Word) : (s.setBc w).draws = s.draws := rfl
@[simp] theorem State.setBc_inputs (w : Word) : (s.setBc w).inputs = s.inputs := rfl

/-! ### `setDe` -/

@[simp] theorem State.setDe_cpu_a (w : Word) : (s.setDe w).cpu.a = s.cpu.a := rfl
@[simp] theorem State.setDe_cpu_f (w : Word) : (s.setDe w).cpu.f = s.cpu.f := rfl
@[simp] theorem State.setDe_cpu_b (w : Word) : (s.setDe w).cpu.b = s.cpu.b := rfl
@[simp] theorem State.setDe_cpu_c (w : Word) : (s.setDe w).cpu.c = s.cpu.c := rfl
@[simp] theorem State.setDe_cpu_d (w : Word) : (s.setDe w).cpu.d = hiByte w := rfl
@[simp] theorem State.setDe_cpu_e (w : Word) : (s.setDe w).cpu.e = loByte w := rfl
@[simp] theorem State.setDe_cpu_h (w : Word) : (s.setDe w).cpu.h = s.cpu.h := rfl
@[simp] theorem State.setDe_cpu_l (w : Word) : (s.setDe w).cpu.l = s.cpu.l := rfl
@[simp] theorem State.setDe_cpu_sp (w : Word) : (s.setDe w).cpu.sp = s.cpu.sp := rfl
@[simp] theorem State.setDe_cpu_pc (w : Word) : (s.setDe w).cpu.pc = s.cpu.pc := rfl
@[simp] theorem State.setDe_cpu_ime (w : Word) : (s.setDe w).cpu.ime = s.cpu.ime := rfl
@[simp] theorem State.setDe_cpu_pendingIme (w : Word) : (s.setDe w).cpu.pendingIme = s.cpu.pendingIme := rfl
@[simp] theorem State.setDe_cpu_halted (w : Word) : (s.setDe w).cpu.halted = s.cpu.halted := rfl
@[simp] theorem State.setDe_cpu_haltBug (w : Word) : (s.setDe w).cpu.haltBug = s.cpu.haltBug := rfl
@[simp] theorem State.setDe_cpu_locked (w : Word) : (s.setDe w).cpu.locked = s.cpu.locked := rfl
@[simp] theorem State.setDe_ie (w : Word) : (s.setDe w).ie = s.ie := rfl
@[simp] theorem State.setDe_iflag (w : Word) : (s.setDe w).iflag = s.iflag := rfl
@[simp] theorem State.setDe_rom (w : Word) : (s.setDe w).rom = s.rom := rfl
@[simp] theorem State.setDe_extRam (w : Word) : (s.setDe w).extRam = s.extRam := rfl
@[simp] theorem State.setDe_vram (w : Word) : (s.setDe w).vram = s.vram := rfl
@[simp] theorem State.setDe_wram (w : Word) : (s.setDe w).wram = s.wram := rfl
@[simp] theorem State.setDe_oam (w : Word) : (s.setDe w).oam = s.oam := rfl
@[simp] theorem State.setDe_hram (w : Word) : (s.setDe w).hram = s.hram := rfl
@[simp] theorem State.setDe_io (w : Word) : (s.setDe w).io = s.io := rfl
@[simp] theorem State.setDe_mbc (w : Word) : (s.setDe w).mbc = s.mbc := rfl
@[simp] theorem State.setDe_joypad (w : Word) : (s.setDe w).joypad = s.joypad := rfl
@[simp] theorem State.setDe_serial (w : Word) : (s.setDe w).serial = s.serial := rfl
@[simp] theorem State.setDe_timer (w : Word) : (s.setDe w).timer = s.timer := rfl
@[simp] theorem State.setDe_ppu (w : Word) : (s.setDe w).ppu = s.ppu := rfl
@[simp] theorem State.setDe_params (w : Word) : (s.setDe w).params = s.params := rfl
@[simp] theorem State.setDe_cost (w : Word) : (s.setDe w).cost = s.cost := rfl
@[simp] theorem State.setDe_draws (w : Word) : (s.setDe w).draws = s.draws := rfl
@[simp] theorem State.setDe_inputs (w : Word) : (s.setDe w).inputs = s.inputs := rfl

/-! ### `setHl` -/

@[simp] theorem State.setHl_cpu_a (w : Word) : (s.setHl w).cpu.a = s.cpu.a := rfl
@[simp] theorem State.setHl_cpu_f (w : Word) : (s.setHl w).cpu.f = s.cpu.f := rfl
@[simp] theorem State.setHl_cpu_b (w : Word) : (s.setHl w).cpu.b = s.cpu.b := rfl
@[simp] theorem State.setHl_cpu_c (w : Word) : (s.setHl w).cpu.c = s.cpu.c := rfl
@[simp] theorem State.setHl_cpu_d (w : Word) : (s.setHl w).cpu.d = s.cpu.d := rfl
@[simp] theorem State.setHl_cpu_e (w : Word) : (s.setHl w).cpu.e = s.cpu.e := rfl
@[simp] theorem State.setHl_cpu_h (w : Word) : (s.setHl w).cpu.h = hiByte w := rfl
@[simp] theorem State.setHl_cpu_l (w : Word) : (s.setHl w).cpu.l = loByte w := rfl
@[simp] theorem State.setHl_cpu_sp (w : Word) : (s.setHl w).cpu.sp = s.cpu.sp := rfl
@[simp] theorem State.setHl_cpu_pc (w : Word) : (s.setHl w).cpu.pc = s.cpu.pc := rfl
@[simp] theorem State.setHl_cpu_ime (w : Word) : (s.setHl w).cpu.ime = s.cpu.ime := rfl
@[simp] theorem State.setHl_cpu_pendingIme (w : Word) : (s.setHl w).cpu.pendingIme = s.cpu.pendingIme := rfl
@[simp] theorem State.setHl_cpu_halted (w : Word) : (s.setHl w).cpu.halted = s.cpu.halted := rfl
@[simp] theorem State.setHl_cpu_haltBug (w : Word) : (s.setHl w).cpu.haltBug = s.cpu.haltBug := rfl
@[simp] theorem State.setHl_cpu_locked (w : Word) : (s.setHl w).cpu.locked = s.cpu.locked := rfl
@[simp] theorem State.setHl_ie (w : Word) : (s.setHl w).ie = s.ie := rfl
@[simp] theorem State.setHl_iflag (w : Word) : (s.setHl w).iflag = s.iflag := rfl
@[simp] theorem State.setHl_rom (w : Word) : (s.setHl w).rom = s.rom := rfl
@[simp] theorem State.setHl_extRam (w : Word) : (s.setHl w).extRam = s.extRam := rfl
@[simp] theorem State.setHl_vram (w : Word) : (s.setHl w).vram = s.vram := rfl
@[simp] theorem State.setHl_wram (w : Word) : (s.setHl w).wram = s.wram := rfl
@[simp] theorem State.setHl_oam (w : Word) : (s.setHl w).oam = s.oam := rfl
@[simp] theorem State.setHl_hram (w : Word) : (s.setHl w).hram = s.hram := rfl
@[simp] theorem State.setHl_io (w : Word) : (s.setHl w).io = s.io := rfl
@[simp] theorem State.setHl_mbc (w : Word) : (s.setHl w).mbc = s.mbc := rfl
@[simp] theorem State.setHl_joypad (w : Word) : (s.setHl w).joypad = s.joypad := rfl
@[simp] theorem State.setHl_serial (w : Word) : (s.setHl w).serial = s.serial := rfl
@[simp] theorem State.setHl_timer (w : Word) : (s.setHl w).timer = s.timer := rfl
@[simp] theorem State.setHl_ppu (w : Word) : (s.setHl w).ppu = s.ppu := rfl
@[simp] theorem State.setHl_params (w : Word) : (s.setHl w).params = s.params := rfl
@[simp] theorem State.setHl_cost (w : Word) : (s.setHl w).cost = s.cost := rfl
@[simp] theorem State.setHl_draws (w : Word) : (s.setHl w).draws = s.draws := rfl
@[simp] theorem State.setHl_inputs (w : Word) : (s.setHl w).inputs = s.inputs := rfl

/-! ### `setAf` -/

@[simp] theorem State.setAf_cpu_a (w : Word) : (s.setAf w).cpu.a = hiByte w := rfl
@[simp] theorem State.setAf_cpu_f (w : Word) : (s.setAf w).cpu.f = loByte w &&& 0xF0#8 := rfl
@[simp] theorem State.setAf_cpu_b (w : Word) : (s.setAf w).cpu.b = s.cpu.b := rfl
@[simp] theorem State.setAf_cpu_c (w : Word) : (s.setAf w).cpu.c = s.cpu.c := rfl
@[simp] theorem State.setAf_cpu_d (w : Word) : (s.setAf w).cpu.d = s.cpu.d := rfl
@[simp] theorem State.setAf_cpu_e (w : Word) : (s.setAf w).cpu.e = s.cpu.e := rfl
@[simp] theorem State.setAf_cpu_h (w : Word) : (s.setAf w).cpu.h = s.cpu.h := rfl
@[simp] theorem State.setAf_cpu_l (w : Word) : (s.setAf w).cpu.l = s.cpu.l := rfl
@[simp] theorem State.setAf_cpu_sp (w : Word) : (s.setAf w).cpu.sp = s.cpu.sp := rfl
@[simp] theorem State.setAf_cpu_pc (w : Word) : (s.setAf w).cpu.pc = s.cpu.pc := rfl
@[simp] theorem State.setAf_cpu_ime (w : Word) : (s.setAf w).cpu.ime = s.cpu.ime := rfl
@[simp] theorem State.setAf_cpu_pendingIme (w : Word) : (s.setAf w).cpu.pendingIme = s.cpu.pendingIme := rfl
@[simp] theorem State.setAf_cpu_halted (w : Word) : (s.setAf w).cpu.halted = s.cpu.halted := rfl
@[simp] theorem State.setAf_cpu_haltBug (w : Word) : (s.setAf w).cpu.haltBug = s.cpu.haltBug := rfl
@[simp] theorem State.setAf_cpu_locked (w : Word) : (s.setAf w).cpu.locked = s.cpu.locked := rfl
@[simp] theorem State.setAf_ie (w : Word) : (s.setAf w).ie = s.ie := rfl
@[simp] theorem State.setAf_iflag (w : Word) : (s.setAf w).iflag = s.iflag := rfl
@[simp] theorem State.setAf_rom (w : Word) : (s.setAf w).rom = s.rom := rfl
@[simp] theorem State.setAf_extRam (w : Word) : (s.setAf w).extRam = s.extRam := rfl
@[simp] theorem State.setAf_vram (w : Word) : (s.setAf w).vram = s.vram := rfl
@[simp] theorem State.setAf_wram (w : Word) : (s.setAf w).wram = s.wram := rfl
@[simp] theorem State.setAf_oam (w : Word) : (s.setAf w).oam = s.oam := rfl
@[simp] theorem State.setAf_hram (w : Word) : (s.setAf w).hram = s.hram := rfl
@[simp] theorem State.setAf_io (w : Word) : (s.setAf w).io = s.io := rfl
@[simp] theorem State.setAf_mbc (w : Word) : (s.setAf w).mbc = s.mbc := rfl
@[simp] theorem State.setAf_joypad (w : Word) : (s.setAf w).joypad = s.joypad := rfl
@[simp] theorem State.setAf_serial (w : Word) : (s.setAf w).serial = s.serial := rfl
@[simp] theorem State.setAf_timer (w : Word) : (s.setAf w).timer = s.timer := rfl
@[simp] theorem State.setAf_ppu (w : Word) : (s.setAf w).ppu = s.ppu := rfl
@[simp] theorem State.setAf_params (w : Word) : (s.setAf w).params = s.params := rfl
@[simp] theorem State.setAf_cost (w : Word) : (s.setAf w).cost = s.cost := rfl
@[simp] theorem State.setAf_draws (w : Word) : (s.setAf w).draws = s.draws := rfl
@[simp] theorem State.setAf_inputs (w : Word) : (s.setAf w).inputs = s.inputs := rfl

/-! ### `setSp` -/

@[simp] theorem State.setSp_cpu_a (w : Word) : (s.setSp w).cpu.a = s.cpu.a := rfl
@[simp] theorem State.setSp_cpu_f (w : Word) : (s.setSp w).cpu.f = s.cpu.f := rfl
@[simp] theorem State.setSp_cpu_b (w : Word) : (s.setSp w).cpu.b = s.cpu.b := rfl
@[simp] theorem State.setSp_cpu_c (w : Word) : (s.setSp w).cpu.c = s.cpu.c := rfl
@[simp] theorem State.setSp_cpu_d (w : Word) : (s.setSp w).cpu.d = s.cpu.d := rfl
@[simp] theorem State.setSp_cpu_e (w : Word) : (s.setSp w).cpu.e = s.cpu.e := rfl
@[simp] theorem State.setSp_cpu_h (w : Word) : (s.setSp w).cpu.h = s.cpu.h := rfl
@[simp] theorem State.setSp_cpu_l (w : Word) : (s.setSp w).cpu.l = s.cpu.l := rfl
@[simp] theorem State.setSp_cpu_sp (w : Word) : (s.setSp w).cpu.sp = w := rfl
@[simp] theorem State.setSp_cpu_pc (w : Word) : (s.setSp w).cpu.pc = s.cpu.pc := rfl
@[simp] theorem State.setSp_cpu_ime (w : Word) : (s.setSp w).cpu.ime = s.cpu.ime := rfl
@[simp] theorem State.setSp_cpu_pendingIme (w : Word) : (s.setSp w).cpu.pendingIme = s.cpu.pendingIme := rfl
@[simp] theorem State.setSp_cpu_halted (w : Word) : (s.setSp w).cpu.halted = s.cpu.halted := rfl
@[simp] theorem State.setSp_cpu_haltBug (w : Word) : (s.setSp w).cpu.haltBug = s.cpu.haltBug := rfl
@[simp] theorem State.setSp_cpu_locked (w : Word) : (s.setSp w).cpu.locked = s.cpu.locked := rfl
@[simp] theorem State.setSp_ie (w : Word) : (s.setSp w).ie = s.ie := rfl
@[simp] theorem State.setSp_iflag (w : Word) : (s.setSp w).iflag = s.iflag := rfl
@[simp] theorem State.setSp_rom (w : Word) : (s.setSp w).rom = s.rom := rfl
@[simp] theorem State.setSp_extRam (w : Word) : (s.setSp w).extRam = s.extRam := rfl
@[simp] theorem State.setSp_vram (w : Word) : (s.setSp w).vram = s.vram := rfl
@[simp] theorem State.setSp_wram (w : Word) : (s.setSp w).wram = s.wram := rfl
@[simp] theorem State.setSp_oam (w : Word) : (s.setSp w).oam = s.oam := rfl
@[simp] theorem State.setSp_hram (w : Word) : (s.setSp w).hram = s.hram := rfl
@[simp] theorem State.setSp_io (w : Word) : (s.setSp w).io = s.io := rfl
@[simp] theorem State.setSp_mbc (w : Word) : (s.setSp w).mbc = s.mbc := rfl
@[simp] theorem State.setSp_joypad (w : Word) : (s.setSp w).joypad = s.joypad := rfl
@[simp] theorem State.setSp_serial (w : Word) : (s.setSp w).serial = s.serial := rfl
@[simp] theorem State.setSp_timer (w : Word) : (s.setSp w).timer = s.timer := rfl
@[simp] theorem State.setSp_ppu (w : Word) : (s.setSp w).ppu = s.ppu := rfl
@[simp] theorem State.setSp_params (w : Word) : (s.setSp w).params = s.params := rfl
@[simp] theorem State.setSp_cost (w : Word) : (s.setSp w).cost = s.cost := rfl
@[simp] theorem State.setSp_draws (w : Word) : (s.setSp w).draws = s.draws := rfl
@[simp] theorem State.setSp_inputs (w : Word) : (s.setSp w).inputs = s.inputs := rfl

/-! ### `setPc` -/

@[simp] theorem State.setPc_cpu_a (w : Word) : (s.setPc w).cpu.a = s.cpu.a := rfl
@[simp] theorem State.setPc_cpu_f (w : Word) : (s.setPc w).cpu.f = s.cpu.f := rfl
@[simp] theorem State.setPc_cpu_b (w : Word) : (s.setPc w).cpu.b = s.cpu.b := rfl
@[simp] theorem State.setPc_cpu_c (w : Word) : (s.setPc w).cpu.c = s.cpu.c := rfl
@[simp] theorem State.setPc_cpu_d (w : Word) : (s.setPc w).cpu.d = s.cpu.d := rfl
@[simp] theorem State.setPc_cpu_e (w : Word) : (s.setPc w).cpu.e = s.cpu.e := rfl
@[simp] theorem State.setPc_cpu_h (w : Word) : (s.setPc w).cpu.h = s.cpu.h := rfl
@[simp] theorem State.setPc_cpu_l (w : Word) : (s.setPc w).cpu.l = s.cpu.l := rfl
@[simp] theorem State.setPc_cpu_sp (w : Word) : (s.setPc w).cpu.sp = s.cpu.sp := rfl
@[simp] theorem State.setPc_cpu_pc (w : Word) : (s.setPc w).cpu.pc = w := rfl
@[simp] theorem State.setPc_cpu_ime (w : Word) : (s.setPc w).cpu.ime = s.cpu.ime := rfl
@[simp] theorem State.setPc_cpu_pendingIme (w : Word) : (s.setPc w).cpu.pendingIme = s.cpu.pendingIme := rfl
@[simp] theorem State.setPc_cpu_halted (w : Word) : (s.setPc w).cpu.halted = s.cpu.halted := rfl
@[simp] theorem State.setPc_cpu_haltBug (w : Word) : (s.setPc w).cpu.haltBug = s.cpu.haltBug := rfl
@[simp] theorem State.setPc_cpu_locked (w : Word) : (s.setPc w).cpu.locked = s.cpu.locked := rfl
@[simp] theorem State.setPc_ie (w : Word) : (s.setPc w).ie = s.ie := rfl
@[simp] theorem State.setPc_iflag (w : Word) : (s.setPc w).iflag = s.iflag := rfl
@[simp] theorem State.setPc_rom (w : Word) : (s.setPc w).rom = s.rom := rfl
@[simp] theorem State.setPc_extRam (w : Word) : (s.setPc w).extRam = s.extRam := rfl
@[simp] theorem State.setPc_vram (w : Word) : (s.setPc w).vram = s.vram := rfl
@[simp] theorem State.setPc_wram (w : Word) : (s.setPc w).wram = s.wram := rfl
@[simp] theorem State.setPc_oam (w : Word) : (s.setPc w).oam = s.oam := rfl
@[simp] theorem State.setPc_hram (w : Word) : (s.setPc w).hram = s.hram := rfl
@[simp] theorem State.setPc_io (w : Word) : (s.setPc w).io = s.io := rfl
@[simp] theorem State.setPc_mbc (w : Word) : (s.setPc w).mbc = s.mbc := rfl
@[simp] theorem State.setPc_joypad (w : Word) : (s.setPc w).joypad = s.joypad := rfl
@[simp] theorem State.setPc_serial (w : Word) : (s.setPc w).serial = s.serial := rfl
@[simp] theorem State.setPc_timer (w : Word) : (s.setPc w).timer = s.timer := rfl
@[simp] theorem State.setPc_ppu (w : Word) : (s.setPc w).ppu = s.ppu := rfl
@[simp] theorem State.setPc_params (w : Word) : (s.setPc w).params = s.params := rfl
@[simp] theorem State.setPc_cost (w : Word) : (s.setPc w).cost = s.cost := rfl
@[simp] theorem State.setPc_draws (w : Word) : (s.setPc w).draws = s.draws := rfl
@[simp] theorem State.setPc_inputs (w : Word) : (s.setPc w).inputs = s.inputs := rfl

/-! ### `setFlags` -/

@[simp] theorem State.setFlags_cpu_a (z n h c : Bool) : (s.setFlags z n h c).cpu.a = s.cpu.a := rfl
@[simp] theorem State.setFlags_cpu_f (z n h c : Bool) : (s.setFlags z n h c).cpu.f = packFlags z n h c &&& 0xF0#8 := rfl
@[simp] theorem State.setFlags_cpu_b (z n h c : Bool) : (s.setFlags z n h c).cpu.b = s.cpu.b := rfl
@[simp] theorem State.setFlags_cpu_c (z n h c : Bool) : (s.setFlags z n h c).cpu.c = s.cpu.c := rfl
@[simp] theorem State.setFlags_cpu_d (z n h c : Bool) : (s.setFlags z n h c).cpu.d = s.cpu.d := rfl
@[simp] theorem State.setFlags_cpu_e (z n h c : Bool) : (s.setFlags z n h c).cpu.e = s.cpu.e := rfl
@[simp] theorem State.setFlags_cpu_h (z n h c : Bool) : (s.setFlags z n h c).cpu.h = s.cpu.h := rfl
@[simp] theorem State.setFlags_cpu_l (z n h c : Bool) : (s.setFlags z n h c).cpu.l = s.cpu.l := rfl
@[simp] theorem State.setFlags_cpu_sp (z n h c : Bool) : (s.setFlags z n h c).cpu.sp = s.cpu.sp := rfl
@[simp] theorem State.setFlags_cpu_pc (z n h c : Bool) : (s.setFlags z n h c).cpu.pc = s.cpu.pc := rfl
@[simp] theorem State.setFlags_cpu_ime (z n h c : Bool) : (s.setFlags z n h c).cpu.ime = s.cpu.ime := rfl
@[simp] theorem State.setFlags_cpu_pendingIme (z n h c : Bool) : (s.setFlags z n h c).cpu.pendingIme = s.cpu.pendingIme := rfl
@[simp] theorem State.setFlags_cpu_halted (z n h c : Bool) : (s.setFlags z n h c).cpu.halted = s.cpu.halted := rfl
@[simp] theorem State.setFlags_cpu_haltBug (z n h c : Bool) : (s.setFlags z n h c).cpu.haltBug = s.cpu.haltBug := rfl
@[simp] theorem State.setFlags_cpu_locked (z n h c : Bool) : (s.setFlags z n h c).cpu.locked = s.cpu.locked := rfl
@[simp] theorem State.setFlags_ie (z n h c : Bool) : (s.setFlags z n h c).ie = s.ie := rfl
@[simp] theorem State.setFlags_iflag (z n h c : Bool) : (s.setFlags z n h c).iflag = s.iflag := rfl
@[simp] theorem State.setFlags_rom (z n h c : Bool) : (s.setFlags z n h c).rom = s.rom := rfl
@[simp] theorem State.setFlags_extRam (z n h c : Bool) : (s.setFlags z n h c).extRam = s.extRam := rfl
@[simp] theorem State.setFlags_vram (z n h c : Bool) : (s.setFlags z n h c).vram = s.vram := rfl
@[simp] theorem State.setFlags_wram (z n h c : Bool) : (s.setFlags z n h c).wram = s.wram := rfl
@[simp] theorem State.setFlags_oam (z n h c : Bool) : (s.setFlags z n h c).oam = s.oam := rfl
@[simp] theorem State.setFlags_hram (z n h c : Bool) : (s.setFlags z n h c).hram = s.hram := rfl
@[simp] theorem State.setFlags_io (z n h c : Bool) : (s.setFlags z n h c).io = s.io := rfl
@[simp] theorem State.setFlags_mbc (z n h c : Bool) : (s.setFlags z n h c).mbc = s.mbc := rfl
@[simp] theorem State.setFlags_joypad (z n h c : Bool) : (s.setFlags z n h c).joypad = s.joypad := rfl
@[simp] theorem State.setFlags_serial (z n h c : Bool) : (s.setFlags z n h c).serial = s.serial := rfl
@[simp] theorem State.setFlags_timer (z n h c : Bool) : (s.setFlags z n h c).timer = s.timer := rfl
@[simp] theorem State.setFlags_ppu (z n h c : Bool) : (s.setFlags z n h c).ppu = s.ppu := rfl
@[simp] theorem State.setFlags_params (z n h c : Bool) : (s.setFlags z n h c).params = s.params := rfl
@[simp] theorem State.setFlags_cost (z n h c : Bool) : (s.setFlags z n h c).cost = s.cost := rfl
@[simp] theorem State.setFlags_draws (z n h c : Bool) : (s.setFlags z n h c).draws = s.draws := rfl
@[simp] theorem State.setFlags_inputs (z n h c : Bool) : (s.setFlags z n h c).inputs = s.inputs := rfl

/-! ### `fetched` -/

@[simp] theorem State.fetched_cpu_a (n : Nat) : (s.fetched n).cpu.a = s.cpu.a := rfl
@[simp] theorem State.fetched_cpu_f (n : Nat) : (s.fetched n).cpu.f = s.cpu.f := rfl
@[simp] theorem State.fetched_cpu_b (n : Nat) : (s.fetched n).cpu.b = s.cpu.b := rfl
@[simp] theorem State.fetched_cpu_c (n : Nat) : (s.fetched n).cpu.c = s.cpu.c := rfl
@[simp] theorem State.fetched_cpu_d (n : Nat) : (s.fetched n).cpu.d = s.cpu.d := rfl
@[simp] theorem State.fetched_cpu_e (n : Nat) : (s.fetched n).cpu.e = s.cpu.e := rfl
@[simp] theorem State.fetched_cpu_h (n : Nat) : (s.fetched n).cpu.h = s.cpu.h := rfl
@[simp] theorem State.fetched_cpu_l (n : Nat) : (s.fetched n).cpu.l = s.cpu.l := rfl
@[simp] theorem State.fetched_cpu_sp (n : Nat) : (s.fetched n).cpu.sp = s.cpu.sp := rfl
@[simp] theorem State.fetched_cpu_pc (n : Nat) : (s.fetched n).cpu.pc = (if s.cpu.haltBug then s.cpu.pc + BitVec.ofNat 16 (n - 1) else s.cpu.pc + BitVec.ofNat 16 n) := rfl
@[simp] theorem State.fetched_cpu_ime (n : Nat) : (s.fetched n).cpu.ime = s.cpu.ime := rfl
@[simp] theorem State.fetched_cpu_pendingIme (n : Nat) : (s.fetched n).cpu.pendingIme = s.cpu.pendingIme := rfl
@[simp] theorem State.fetched_cpu_halted (n : Nat) : (s.fetched n).cpu.halted = s.cpu.halted := rfl
@[simp] theorem State.fetched_cpu_haltBug (n : Nat) : (s.fetched n).cpu.haltBug = false := rfl
@[simp] theorem State.fetched_cpu_locked (n : Nat) : (s.fetched n).cpu.locked = s.cpu.locked := rfl
@[simp] theorem State.fetched_ie (n : Nat) : (s.fetched n).ie = s.ie := rfl
@[simp] theorem State.fetched_iflag (n : Nat) : (s.fetched n).iflag = s.iflag := rfl
@[simp] theorem State.fetched_rom (n : Nat) : (s.fetched n).rom = s.rom := rfl
@[simp] theorem State.fetched_extRam (n : Nat) : (s.fetched n).extRam = s.extRam := rfl
@[simp] theorem State.fetched_vram (n : Nat) : (s.fetched n).vram = s.vram := rfl
@[simp] theorem State.fetched_wram (n : Nat) : (s.fetched n).wram = s.wram := rfl
@[simp] theorem State.fetched_oam (n : Nat) : (s.fetched n).oam = s.oam := rfl
@[simp] theorem State.fetched_hram (n : Nat) : (s.fetched n).hram = s.hram := rfl
@[simp] theorem State.fetched_io (n : Nat) : (s.fetched n).io = s.io := rfl
@[simp] theorem State.fetched_mbc (n : Nat) : (s.fetched n).mbc = s.mbc := rfl
@[simp] theorem State.fetched_joypad (n : Nat) : (s.fetched n).joypad = s.joypad := rfl
@[simp] theorem State.fetched_serial (n : Nat) : (s.fetched n).serial = s.serial := rfl
@[simp] theorem State.fetched_timer (n : Nat) : (s.fetched n).timer = s.timer := rfl
@[simp] theorem State.fetched_ppu (n : Nat) : (s.fetched n).ppu = s.ppu := rfl
@[simp] theorem State.fetched_params (n : Nat) : (s.fetched n).params = s.params := rfl
@[simp] theorem State.fetched_cost (n : Nat) : (s.fetched n).cost = s.cost := rfl
@[simp] theorem State.fetched_draws (n : Nat) : (s.fetched n).draws = s.draws := rfl
@[simp] theorem State.fetched_inputs (n : Nat) : (s.fetched n).inputs = s.inputs := rfl

/-! ### `popped` -/

@[simp] theorem State.popped_cpu_a : (s.popped).cpu.a = s.cpu.a := rfl
@[simp] theorem State.popped_cpu_f : (s.popped).cpu.f = s.cpu.f := rfl
@[simp] theorem State.popped_cpu_b : (s.popped).cpu.b = s.cpu.b := rfl
@[simp] theorem State.popped_cpu_c : (s.popped).cpu.c = s.cpu.c := rfl
@[simp] theorem State.popped_cpu_d : (s.popped).cpu.d = s.cpu.d := rfl
@[simp] theorem State.popped_cpu_e : (s.popped).cpu.e = s.cpu.e := rfl
@[simp] theorem State.popped_cpu_h : (s.popped).cpu.h = s.cpu.h := rfl
@[simp] theorem State.popped_cpu_l : (s.popped).cpu.l = s.cpu.l := rfl
@[simp] theorem State.popped_cpu_sp : (s.popped).cpu.sp = s.cpu.sp + 2#16 := rfl
@[simp] theorem State.popped_cpu_pc : (s.popped).cpu.pc = s.cpu.pc := rfl
@[simp] theorem State.popped_cpu_ime : (s.popped).cpu.ime = s.cpu.ime := rfl
@[simp] theorem State.popped_cpu_pendingIme : (s.popped).cpu.pendingIme = s.cpu.pendingIme := rfl
@[simp] theorem State.popped_cpu_halted : (s.popped).cpu.halted = s.cpu.halted := rfl
@[simp] theorem State.popped_cpu_haltBug : (s.popped).cpu.haltBug = s.cpu.haltBug := rfl
@[simp] theorem State.popped_cpu_locked : (s.popped).cpu.locked = s.cpu.locked := rfl
@[simp] theorem State.popped_ie : (s.popped).ie = s.ie := rfl
@[simp] theorem State.popped_iflag : (s.popped).iflag = s.iflag := rfl
@[simp] theorem State.popped_rom : (s.popped).rom = s.rom := rfl
@[simp] theorem State.popped_extRam : (s.popped).extRam = s.extRam := rfl
@[simp] theorem State.popped_vram : (s.popped).vram = s.vram := rfl
@[simp] theorem State.popped_wram : (s.popped).wram = s.wram := rfl
@[simp] theorem State.popped_oam : (s.popped).oam = s.oam := rfl
@[simp] theorem State.popped_hram : (s.popped).hram = s.hram := rfl
@[simp] theorem State.popped_io : (s.popped).io = s.io := rfl
@[simp] theorem State.popped_mbc : (s.popped).mbc = s.mbc := rfl
@[simp] theorem State.popped_joypad : (s.popped).joypad = s.joypad := rfl
@[simp] theorem State.popped_serial : (s.popped).serial = s.serial := rfl
@[simp] theorem State.popped_timer : (s.popped).timer = s.timer := rfl
@[simp] theorem State.popped_ppu : (s.popped).ppu = s.ppu := rfl
@[simp] theorem State.popped_params : (s.popped).params = s.params := rfl
@[simp] theorem State.popped_cost : (s.popped).cost = s.cost := rfl
@[simp] theorem State.popped_draws : (s.popped).draws = s.draws := rfl
@[simp] theorem State.popped_inputs : (s.popped).inputs = s.inputs := rfl

/-! ### `wake` -/

@[simp] theorem State.wake_cpu_a : (s.wake).cpu.a = s.cpu.a := rfl
@[simp] theorem State.wake_cpu_f : (s.wake).cpu.f = s.cpu.f := rfl
@[simp] theorem State.wake_cpu_b : (s.wake).cpu.b = s.cpu.b := rfl
@[simp] theorem State.wake_cpu_c : (s.wake).cpu.c = s.cpu.c := rfl
@[simp] theorem State.wake_cpu_d : (s.wake).cpu.d = s.cpu.d := rfl
@[simp] theorem State.wake_cpu_e : (s.wake).cpu.e = s.cpu.e := rfl
@[simp] theorem State.wake_cpu_h : (s.wake).cpu.h = s.cpu.h := rfl
@[simp] theorem State.wake_cpu_l : (s.wake).cpu.l = s.cpu.l := rfl
@[simp] theorem State.wake_cpu_sp : (s.wake).cpu.sp = s.cpu.sp := rfl
@[simp] theorem State.wake_cpu_pc : (s.wake).cpu.pc = s.cpu.pc := rfl
@[simp] theorem State.wake_cpu_ime : (s.wake).cpu.ime = s.cpu.ime := rfl
@[simp] theorem State.wake_cpu_pendingIme : (s.wake).cpu.pendingIme = s.cpu.pendingIme := rfl
@[simp] theorem State.wake_cpu_halted : (s.wake).cpu.halted = false := rfl
@[simp] theorem State.wake_cpu_haltBug : (s.wake).cpu.haltBug = s.cpu.haltBug := rfl
@[simp] theorem State.wake_cpu_locked : (s.wake).cpu.locked = s.cpu.locked := rfl
@[simp] theorem State.wake_ie : (s.wake).ie = s.ie := rfl
@[simp] theorem State.wake_iflag : (s.wake).iflag = s.iflag := rfl
@[simp] theorem State.wake_rom : (s.wake).rom = s.rom := rfl
@[simp] theorem State.wake_extRam : (s.wake).extRam = s.extRam := rfl
@[simp] theorem State.wake_vram : (s.wake).vram = s.vram := rfl
@[simp] theorem State.wake_wram : (s.wake).wram = s.wram := rfl
@[simp] theorem State.wake_oam : (s.wake).oam = s.oam := rfl
@[simp] theorem State.wake_hram : (s.wake).hram = s.hram := rfl
@[simp] theorem State.wake_io : (s.wake).io = s.io := rfl
@[simp] theorem State.wake_mbc : (s.wake).mbc = s.mbc := rfl
@[simp] theorem State.wake_joypad : (s.wake).joypad = s.joypad := rfl
@[simp] theorem State.wake_serial : (s.wake).serial = s.serial := rfl
@[simp] theorem State.wake_timer : (s.wake).timer = s.timer := rfl
@[simp] theorem State.wake_ppu : (s.wake).ppu = s.ppu := rfl
@[simp] theorem State.wake_params : (s.wake).params = s.params := rfl
@[simp] theorem State.wake_cost : (s.wake).cost = s.cost := rfl
@[simp] theorem State.wake_draws : (s.wake).draws = s.draws := rfl
@[simp] theorem State.wake_inputs : (s.wake).inputs = s.inputs := rfl

/-! ### `withCost` -/

@[simp] theorem State.withCost_cpu (n : Nat) : (s.withCost n).cpu = s.cpu := rfl
@[simp] theorem State.withCost_ie (n : Nat) : (s.withCost n).ie = s.ie := rfl
@[simp] theorem State.withCost_iflag (n : Nat) : (s.withCost n).iflag = s.iflag := rfl
@[simp] theorem State.withCost_rom (n : Nat) : (s.withCost n).rom = s.rom := rfl
@[simp] theorem State.withCost_extRam (n : Nat) : (s.withCost n).extRam = s.extRam := rfl
@[simp] theorem State.withCost_vram (n : Nat) : (s.withCost n).vram = s.vram := rfl
@[simp] theorem State.withCost_wram (n : Nat) : (s.withCost n).wram = s.wram := rfl
@[simp] theorem State.withCost_oam (n : Nat) : (s.withCost n).oam = s.oam := rfl
@[simp] theorem State.withCost_hram (n : Nat) : (s.withCost n).hram = s.hram := rfl
@[simp] theorem State.withCost_io (n : Nat) : (s.withCost n).io = s.io := rfl
@[simp] theorem State.withCost_mbc (n : Nat) : (s.withCost n).mbc = s.mbc := rfl
@[simp] theorem State.withCost_joypad (n : Nat) : (s.withCost n).joypad = s.joypad := rfl
@[simp] theorem State.withCost_serial (n : Nat) : (s.withCost n).serial = s.serial := rfl
@[simp] theorem State.withCost_timer (n : Nat) : (s.withCost n).timer = s.timer := rfl
@[simp] theorem State.withCost_ppu (n : Nat) : (s.withCost n).ppu = s.ppu := rfl
@[simp] theorem State.withCost_params (n : Nat) : (s.withCost n).params = s.params := rfl
@[simp] theorem State.withCost_cost (n : Nat) : (s.withCost n).cost = n := rfl
@[simp] theorem State.withCost_draws (n : Nat) : (s.withCost n).draws = s.draws := rfl
@[simp] theorem State.withCost_inputs (n : Nat) : (s.withCost n).inputs = s.inputs := rfl

/-! ### Registers by operand code -/

/-- A register written by its code holds the value. -/
@[simp] theorem State.reg_setReg_self (r : Reg8) (v : Byte) : (s.setReg r v).reg r = v := by cases r <;> rfl

/-- Writing a register leaves the others. -/
@[simp] theorem State.reg_setReg_ne (r q : Reg8) (v : Byte) (h : q ≠ r) : (s.setReg r v).reg q = s.reg q := by
  cases r <;> cases q <;> first | rfl | exact absurd rfl h

/-- Writing a register changes only the CPU, and there neither F, SP, PC nor a hidden bit. -/
theorem State.setReg_eq (r : Reg8) (v : Byte) :
    ∃ c : Cpu, s.setReg r v = { s with cpu := c } ∧ c.f = s.cpu.f ∧ c.sp = s.cpu.sp ∧ c.pc = s.cpu.pc ∧ c.ime = s.cpu.ime ∧
      c.pendingIme = s.cpu.pendingIme ∧ c.halted = s.cpu.halted ∧ c.haltBug = s.cpu.haltBug ∧ c.locked = s.cpu.locked := by
  cases r <;> exact ⟨_, rfl, rfl, rfl, rfl, rfl, rfl, rfl, rfl, rfl⟩

/-- A pair written by its code holds the word. -/
@[simp] theorem State.pair_setPair_self (p : RegPair) (w : Word) : (s.setPair p w).pair p = w := by
  have key : wordOf (hiByte w) (loByte w) = w := by
    unfold wordOf hiByte loByte
    ext i hi
    simp only [BitVec.getElem_append, BitVec.getElem_extractLsb']
    split
    · simp [BitVec.getLsbD, BitVec.getElem_eq_testBit_toNat]
    · rw [show 8 + (i - 8) = i by omega]; simp [BitVec.getLsbD, BitVec.getElem_eq_testBit_toNat]
  cases p <;> first | rfl | exact key

end Sys2Proof.Machine
end

