-- ==== Sys2Proof/Laws/Flags.lean ====
section
/-! SUPPORT. What F holds after the flags are written: the four flags and a low nibble of zero. -/

namespace Sys2Proof.Machine

theorem packFlags_nibble (z n h c : Bool) : packFlags z n h c &&& 0x0F#8 = 0x00#8 := by
  cases z <;> cases n <;> cases h <;> cases c <;> rfl

theorem packFlags_masked (z n h c : Bool) : packFlags z n h c &&& 0xF0#8 = packFlags z n h c := by
  cases z <;> cases n <;> cases h <;> cases c <;> rfl

theorem packFlags_z (z n h c : Bool) : (packFlags z n h c).getLsbD 7 = z := by
  cases z <;> cases n <;> cases h <;> cases c <;> rfl

theorem packFlags_n (z n h c : Bool) : (packFlags z n h c).getLsbD 6 = n := by
  cases z <;> cases n <;> cases h <;> cases c <;> rfl

theorem packFlags_h (z n h c : Bool) : (packFlags z n h c).getLsbD 5 = h := by
  cases z <;> cases n <;> cases h <;> cases c <;> rfl

theorem packFlags_c (z n h c : Bool) : (packFlags z n h c).getLsbD 4 = c := by
  cases z <;> cases n <;> cases h <;> cases c <;> rfl

variable (s : State)

/-- `setFlags` writes the four flags and zeroes the low nibble. -/
theorem State.setFlags_spec (z n h c : Bool) :
    (s.setFlags z n h c).flagZ = z ∧ (s.setFlags z n h c).flagN = n ∧ (s.setFlags z n h c).flagH = h ∧
      (s.setFlags z n h c).flagC = c ∧ (s.setFlags z n h c).cpu.f &&& 0x0F#8 = 0x00#8 := by
  have hf : (s.setFlags z n h c).cpu.f = packFlags z n h c := packFlags_masked z n h c
  unfold State.flagZ State.flagN State.flagH State.flagC
  rw [hf]
  exact ⟨packFlags_z z n h c, packFlags_n z n h c, packFlags_h z n h c, packFlags_c z n h c, packFlags_nibble z n h c⟩

/-- A masked byte has a low nibble of zero. -/
theorem masked_nibble (v : Byte) : v &&& 0xF0#8 &&& 0x0F#8 = 0x00#8 := by
  rw [BitVec.and_assoc]; simp

/-- AF written and read back: the low nibble of F is gone. -/
theorem State.setAf_af (w : Word) : (s.setAf w).af = wordOf (hiByte w) (loByte w &&& 0xF0#8) := rfl

end Sys2Proof.Machine
end

