-- ==== Sys2Proof/Laws/Memory.lean ====
section
/-! SUPPORT. The laws of a memory array: reading after writing, and that every operation keeps the canonical form and the
bounds. -/

namespace Sys2Proof.Machine

theorem Memory.known_eq_none (m : Memory) (a : Nat) (h : ∀ cell ∈ m, cell.1 ≠ a) : m.known a = none := by
  induction m with
  | nil => rfl
  | cons cell rest ih =>
    simp only [List.mem_cons, forall_eq_or_imp] at h
    simp [Memory.known, h.1, ih h.2]

theorem Memory.mem_erase {m : Memory} {a : Nat} {cell : Host.Cell} : cell ∈ m.erase a ↔ cell ∈ m ∧ cell.1 ≠ a := by
  simp [Memory.erase]

theorem Memory.known_erase_self (m : Memory) (a : Nat) : (m.erase a).known a = none :=
  Memory.known_eq_none _ _ fun _ h => (Memory.mem_erase.1 h).2

theorem Memory.known_erase_ne (m : Memory) (a b : Nat) (h : b ≠ a) : (m.erase a).known b = m.known b := by
  induction m with
  | nil => rfl
  | cons cell rest ih =>
    by_cases hc : cell.1 = a
    · have : (Memory.erase (cell :: rest) a) = Memory.erase rest a := by simp [Memory.erase, hc]
      rw [this, ih]
      simp [Memory.known, hc, Ne.symm h]
    · have : (Memory.erase (cell :: rest) a) = cell :: Memory.erase rest a := by simp [Memory.erase, hc]
      rw [this]
      simp [Memory.known, ih]

theorem Memory.mem_insert {m : Memory} {a : Nat} {v : Byte} {cell : Host.Cell} :
    cell ∈ m.insert a v ↔ cell = (a, v) ∨ cell ∈ m := by
  induction m with
  | nil => simp [Memory.insert]
  | cons head rest ih =>
    unfold Memory.insert
    split
    · simp
    · simp only [List.mem_cons, ih]; tauto

theorem Memory.known_insert_self (m : Memory) (a : Nat) (v : Byte) (h : ∀ cell ∈ m, cell.1 ≠ a) :
    (m.insert a v).known a = some v := by
  induction m with
  | nil => simp [Memory.insert, Memory.known]
  | cons head rest ih =>
    simp only [List.mem_cons, forall_eq_or_imp] at h
    unfold Memory.insert
    split
    · simp [Memory.known]
    · simp [Memory.known, h.1, ih h.2]

theorem Memory.known_insert_ne (m : Memory) (a b : Nat) (v : Byte) (h : b ≠ a) : (m.insert a v).known b = m.known b := by
  induction m with
  | nil => simp [Memory.insert, Memory.known, Ne.symm h]
  | cons head rest ih =>
    unfold Memory.insert
    split
    · simp [Memory.known, Ne.symm h]
    · simp [Memory.known, ih]

/-- What a cell list knows after a byte is put at an offset. -/
theorem Memory.known_put (m : Memory) (a b : Nat) (v : Byte) :
    ((m.erase a).insert a v).known b = if b = a then some v else m.known b := by
  split
  · next h => rw [h]; exact Memory.known_insert_self _ _ _ fun _ hc => (Memory.mem_erase.1 hc).2
  · next h => rw [Memory.known_insert_ne _ _ _ _ h, Memory.known_erase_ne _ _ _ h]

/-! ### Read after write -/

theorem Memory.read_write (m : Memory) (a b : Nat) (v : Byte) : (m.write a v).read b = if b = a then v else m.read b := by
  unfold Memory.write Memory.read
  split
  · next hv =>
    split
    · next h => rw [h, Memory.known_erase_self, hv]; rfl
    · next h => rw [Memory.known_erase_ne _ _ _ h]
  · rw [Memory.known_put]
    split <;> rfl

/-- A write is read back, whatever the array holds. -/
@[simp] theorem Memory.read_write_self (m : Memory) (a : Nat) (v : Byte) : (m.write a v).read a = v := by
  rw [Memory.read_write, if_pos rfl]

/-- A write leaves every other offset. -/
@[simp] theorem Memory.read_write_ne (m : Memory) (a b : Nat) (v : Byte) (h : b ≠ a) : (m.write a v).read b = m.read b := by
  rw [Memory.read_write, if_neg h]

theorem Ram.read_write (k : RamArray) (m : Ram) (a b : Nat) (v : Byte) :
    (m.write a v).read k b = if b = a then v else m.read k b := by
  unfold Ram.read Ram.write
  rw [Memory.known_put]
  split <;> rfl

/-- A write is read back, whatever the array holds. -/
@[simp] theorem Ram.read_write_self (k : RamArray) (m : Ram) (a : Nat) (v : Byte) : (m.write a v).read k a = v := by
  rw [Ram.read_write, if_pos rfl]

/-- A write leaves every other offset. -/
@[simp] theorem Ram.read_write_ne (k : RamArray) (m : Ram) (a b : Nat) (v : Byte) (h : b ≠ a) :
    (m.write a v).read k b = m.read k b := by rw [Ram.read_write, if_neg h]

/-! ### The canonical form -/

theorem Memory.wf_nil : Memory.wf [] := by simp [Memory.wf]

theorem Memory.wf_erase (m : Memory) (a : Nat) (h : m.wf) : (m.erase a).wf :=
  ⟨h.1.sublist List.filter_sublist, fun cell hc => h.2 cell (Memory.mem_erase.1 hc).1⟩

theorem Memory.sorted_insert (m : Memory) (a : Nat) (v : Byte) (h : m.sorted) (hn : ∀ cell ∈ m, cell.1 ≠ a) :
    (m.insert a v).sorted := by
  unfold Memory.sorted at h ⊢
  induction m with
  | nil => simp [Memory.insert]
  | cons head rest ih =>
    simp only [List.mem_cons, forall_eq_or_imp] at hn
    rw [List.pairwise_cons] at h
    unfold Memory.insert
    split
    · next lt =>
      refine List.pairwise_cons.2 ⟨?_, List.pairwise_cons.2 h⟩
      intro cell hc
      rcases List.mem_cons.1 hc with rfl | hc
      · exact lt
      · exact lt_trans lt (h.1 cell hc)
    · next nlt =>
      refine List.pairwise_cons.2 ⟨?_, ih h.2 hn.2⟩
      intro cell hc
      rcases Memory.mem_insert.1 hc with rfl | hc
      · have := hn.1
        show head.1 < a
        omega
      · exact h.1 cell hc

/-- A write keeps the canonical form. -/
theorem Memory.wf_write (m : Memory) (a : Nat) (v : Byte) (h : m.wf) : (m.write a v).wf := by
  unfold Memory.write
  split
  · exact Memory.wf_erase m a h
  · next hv =>
    refine ⟨Memory.sorted_insert _ a v (Memory.wf_erase m a h).1 fun _ hc => (Memory.mem_erase.1 hc).2, ?_⟩
    intro cell hc
    rcases Memory.mem_insert.1 hc with rfl | hc
    · exact hv
    · exact (Memory.wf_erase m a h).2 cell hc

/-- A write inside an array keeps it within its size. -/
theorem Memory.within_write (size : Nat) (m : Memory) (a : Nat) (v : Byte) (ha : a < size) (h : m.within size) :
    (m.write a v).within size := by
  unfold Memory.write
  split
  · exact fun cell hc => h cell (Memory.mem_erase.1 hc).1
  · intro cell hc
    rcases Memory.mem_insert.1 hc with rfl | hc
    · exact ha
    · exact h cell (Memory.mem_erase.1 hc).1

/-- An array made of a list of cells is canonical and within its size. -/
theorem Memory.ofCells_sound (size : Nat) (cells : List Host.Cell) :
    (Memory.ofCells size cells).wf ∧ (Memory.ofCells size cells).within size := by
  suffices h : ∀ m : Memory, m.wf ∧ m.within size →
      (cells.foldl (fun m cell => if cell.1 < size then m.write cell.1 cell.2 else m) m).wf ∧
        (cells.foldl (fun m cell => if cell.1 < size then m.write cell.1 cell.2 else m) m).within size from
    h [] ⟨Memory.wf_nil, by simp [Memory.within]⟩
  induction cells with
  | nil => exact fun m h => h
  | cons cell rest ih =>
    intro m h
    refine ih _ ?_
    dsimp only
    split
    · next hlt => exact ⟨Memory.wf_write _ _ _ h.1, Memory.within_write _ _ _ _ hlt h.2⟩
    · exact h

theorem Memory.ofBytes_offsets (bytes : List Byte) (a : Nat) :
    ∀ cell ∈ Memory.ofBytes a bytes, a ≤ cell.1 ∧ cell.1 < a + bytes.length := by
  induction bytes generalizing a with
  | nil => simp [Memory.ofBytes]
  | cons v rest ih =>
    intro cell hc
    have step : ∀ c ∈ Memory.ofBytes (a + 1) rest, a ≤ c.1 ∧ c.1 < a + (v :: rest).length := fun c h => by
      have := ih (a + 1) c h
      simp only [List.length_cons]
      omega
    unfold Memory.ofBytes at hc
    split at hc
    · exact step cell hc
    · rcases List.mem_cons.1 hc with rfl | hc
      · simp
      · exact step cell hc

/-- The image of a list of bytes is canonical. -/
theorem Memory.wf_ofBytes (bytes : List Byte) (a : Nat) : (Memory.ofBytes a bytes).wf := by
  induction bytes generalizing a with
  | nil => exact Memory.wf_nil
  | cons v rest ih =>
    unfold Memory.ofBytes
    split
    · exact ih (a + 1)
    · next hv =>
      refine ⟨List.pairwise_cons.2 ⟨fun cell hc => ?_, (ih (a + 1)).1⟩, ?_⟩
      · have := Memory.ofBytes_offsets rest (a + 1) cell hc
        show a < cell.1
        omega
      · intro cell hc
        rcases List.mem_cons.1 hc with rfl | hc
        · exact hv
        · exact (ih (a + 1)).2 cell hc

theorem Ram.wf_nil : Ram.wf [] := List.Pairwise.nil

/-- A write keeps the canonical form of a RAM array. -/
theorem Ram.wf_write (m : Ram) (a : Nat) (v : Byte) (h : m.wf) : (m.write a v).wf :=
  Memory.sorted_insert _ a v (h.sublist List.filter_sublist) fun _ hc => (Memory.mem_erase.1 hc).2

/-- A write inside a RAM array keeps it within its size. -/
theorem Ram.within_write (size : Nat) (m : Ram) (a : Nat) (v : Byte) (ha : a < size) (h : m.within size) :
    (m.write a v).within size := by
  intro cell hc
  rcases Memory.mem_insert.1 hc with rfl | hc
  · exact ha
  · exact h cell (Memory.mem_erase.1 hc).1

/-- A RAM array made of a list of cells is canonical and within its size. -/
theorem Ram.ofCells_sound (size : Nat) (cells : List Host.Cell) :
    (Ram.ofCells size cells).wf ∧ (Ram.ofCells size cells).within size := by
  suffices h : ∀ m : Ram, m.wf ∧ m.within size →
      (cells.foldl (fun m cell => if cell.1 < size then Ram.write m cell.1 cell.2 else m) m).wf ∧
        Ram.within size (cells.foldl (fun m cell => if cell.1 < size then Ram.write m cell.1 cell.2 else m) m) from
    h [] ⟨Ram.wf_nil, by simp⟩
  induction cells with
  | nil => exact fun m h => h
  | cons cell rest ih =>
    intro m h
    refine ih _ ?_
    dsimp only
    split
    · next hlt => exact ⟨Ram.wf_write _ _ _ h.1, Ram.within_write _ _ _ _ hlt h.2⟩
    · exact h

end Sys2Proof.Machine
end

