-- ==== Sys2Proof/Laws/Ops.lean ====
section
/-! SUPPORT. What each shared operation over memory and registers can do. -/

namespace Sys2Proof.Machine

/-! ### Reading -/

/-- Reading looks at nothing of the CPU and not at the cost field. -/
@[simp] theorem State.readAt_cpu_cost (s : State) (c : Cpu) (k : Nat) (site : ReadSite) (a : Word) :
    State.readAt site { s with cpu := c, cost := k } a = s.readAt site a := rfl

@[simp] theorem State.readAt_cpu (s : State) (c : Cpu) (site : ReadSite) (a : Word) :
    State.readAt site { s with cpu := c } a = s.readAt site a := rfl

theorem State.readAt_of_sameOutsideCpu {s t : State} (h : s.sameOutsideCpu t) (site : ReadSite) (a : Word) :
    t.readAt site a = s.readAt site a := by rw [h]; rfl

theorem State.read_def (s : State) (a : Word) : s.read a = s.readAt .data a := rfl

/-! ### The regions of the address map (R71) -/

/-- Where each region lies, and the offset into it. -/
theorem regionOf_spec (a : Word) :
    match regionOf a with
    | .romFixed off => a.toNat < 0x4000 ∧ off = a.toNat
    | .romBanked off => 0x4000 ≤ a.toNat ∧ a.toNat < 0x8000 ∧ off = a.toNat - 0x4000
    | .vram off => 0x8000 ≤ a.toNat ∧ a.toNat < 0xA000 ∧ off = a.toNat - 0x8000
    | .extRam off => 0xA000 ≤ a.toNat ∧ a.toNat < 0xC000 ∧ off = a.toNat - 0xA000
    | .wram off => 0xC000 ≤ a.toNat ∧ a.toNat < 0xFE00 ∧ off = (a.toNat - 0xC000) % 0x2000
    | .oam off => 0xFE00 ≤ a.toNat ∧ a.toNat < 0xFEA0 ∧ off = a.toNat - 0xFE00
    | .unused => 0xFEA0 ≤ a.toNat ∧ a.toNat < 0xFF00
    | .io off => 0xFF00 ≤ a.toNat ∧ a.toNat < 0xFF80 ∧ off = a.toNat - 0xFF00
    | .hram off => 0xFF80 ≤ a.toNat ∧ a.toNat < 0xFFFF ∧ off = a.toNat - 0xFF80
    | .ie => a.toNat = 0xFFFF := by
  have hlt := a.isLt
  unfold regionOf
  dsimp only
  by_cases h0 : a.toNat < 0x4000
  · rw [if_pos h0]; dsimp only; omega
  rw [if_neg h0]
  by_cases h1 : a.toNat < 0x8000
  · rw [if_pos h1]; dsimp only; omega
  rw [if_neg h1]
  by_cases h2 : a.toNat < 0xA000
  · rw [if_pos h2]; dsimp only; omega
  rw [if_neg h2]
  by_cases h3 : a.toNat < 0xC000
  · rw [if_pos h3]; dsimp only; omega
  rw [if_neg h3]
  by_cases h4 : a.toNat < 0xE000
  · rw [if_pos h4]; dsimp only; omega
  rw [if_neg h4]
  by_cases h5 : a.toNat < 0xFE00
  · rw [if_pos h5]; dsimp only; omega
  rw [if_neg h5]
  by_cases h6 : a.toNat < 0xFEA0
  · rw [if_pos h6]; dsimp only; omega
  rw [if_neg h6]
  by_cases h7 : a.toNat < 0xFF00
  · rw [if_pos h7]; dsimp only; omega
  rw [if_neg h7]
  by_cases h8 : a.toNat < 0xFF80
  · rw [if_pos h8]; dsimp only; omega
  rw [if_neg h8]
  by_cases h9 : a.toNat < 0xFFFF
  · rw [if_pos h9]; dsimp only; omega
  rw [if_neg h9]
  dsimp only
  omega

theorem regionOf_romFixed {a : Word} {off : Nat} (h : regionOf a = .romFixed off) : a.toNat < 0x4000 ∧ off = a.toNat := by
  have s := regionOf_spec a
  rw [h] at s
  exact s

theorem regionOf_romBanked {a : Word} {off : Nat} (h : regionOf a = .romBanked off) : 0x4000 ≤ a.toNat ∧ a.toNat < 0x8000 ∧ off = a.toNat - 0x4000 := by
  have s := regionOf_spec a
  rw [h] at s
  exact s

theorem regionOf_vram {a : Word} {off : Nat} (h : regionOf a = .vram off) : 0x8000 ≤ a.toNat ∧ a.toNat < 0xA000 ∧ off = a.toNat - 0x8000 := by
  have s := regionOf_spec a
  rw [h] at s
  exact s

theorem regionOf_extRam {a : Word} {off : Nat} (h : regionOf a = .extRam off) : 0xA000 ≤ a.toNat ∧ a.toNat < 0xC000 ∧ off = a.toNat - 0xA000 := by
  have s := regionOf_spec a
  rw [h] at s
  exact s

theorem regionOf_wram {a : Word} {off : Nat} (h : regionOf a = .wram off) : 0xC000 ≤ a.toNat ∧ a.toNat < 0xFE00 ∧ off = (a.toNat - 0xC000) % 0x2000 := by
  have s := regionOf_spec a
  rw [h] at s
  exact s

theorem regionOf_oam {a : Word} {off : Nat} (h : regionOf a = .oam off) : 0xFE00 ≤ a.toNat ∧ a.toNat < 0xFEA0 ∧ off = a.toNat - 0xFE00 := by
  have s := regionOf_spec a
  rw [h] at s
  exact s

theorem regionOf_unused {a : Word} (h : regionOf a = .unused) : 0xFEA0 ≤ a.toNat ∧ a.toNat < 0xFF00 := by
  have s := regionOf_spec a
  rw [h] at s
  exact s

theorem regionOf_io {a : Word} {off : Nat} (h : regionOf a = .io off) : 0xFF00 ≤ a.toNat ∧ a.toNat < 0xFF80 ∧ off = a.toNat - 0xFF00 := by
  have s := regionOf_spec a
  rw [h] at s
  exact s

theorem regionOf_hram {a : Word} {off : Nat} (h : regionOf a = .hram off) : 0xFF80 ≤ a.toNat ∧ a.toNat < 0xFFFF ∧ off = a.toNat - 0xFF80 := by
  have s := regionOf_spec a
  rw [h] at s
  exact s

theorem regionOf_ie {a : Word} (h : regionOf a = .ie) : a.toNat = 0xFFFF := by
  have s := regionOf_spec a
  rw [h] at s
  exact s

/-! ### Writing -/

/-- The OAM copy changes nothing but OAM. -/
theorem State.dmaCopy_eq (v : Byte) (l : List Nat) (s : State) :
    ∃ m : Ram, l.foldl (State.dmaByte v) s = { s with oam := m } := by
  induction l generalizing s with
  | nil => exact ⟨s.oam, rfl⟩
  | cons i rest ih =>
    obtain ⟨m, hm⟩ := ih (State.dmaByte v s i)
    exact ⟨m, by rw [List.foldl_cons, hm]; rfl⟩

/-- The OAM copy looks at nothing of the CPU. -/
theorem State.dmaCopy_cpu_cost (v : Byte) (l : List Nat) (s : State) (c : Cpu) (k : Nat) :
    l.foldl (State.dmaByte v) { s with cpu := c, cost := k } =
      { l.foldl (State.dmaByte v) s with cpu := c, cost := k } := by
  induction l generalizing s with
  | nil => rfl
  | cons i rest ih => exact ih (State.dmaByte v s i)

/-- A write of 0xFF46 keeps the byte and changes OAM. -/
theorem State.dmaWrite_eq (s : State) (v : Byte) :
    ∃ m : Ram, s.dmaWrite v = { s with ppu := { s.ppu with dma := v }, oam := m } := by
  unfold State.dmaWrite
  obtain ⟨m, hm⟩ := State.dmaCopy_eq v (List.range 160) { s with ppu := { s.ppu with dma := v } }
  exact ⟨m, by rw [hm]⟩

theorem State.dmaWrite_cpu_cost (s : State) (v : Byte) (c : Cpu) (k : Nat) :
    State.dmaWrite { s with cpu := c, cost := k } v = { s.dmaWrite v with cpu := c, cost := k } := by
  unfold State.dmaWrite
  rw [← State.dmaCopy_cpu_cost]

/-- What an I/O write can change: the register fields, OAM, IF and the IOBacking array. -/
theorem State.ioWrite_eq (s : State) (r : IoReg) (v : Byte) :
    ∃ iflag oam io joypad serial timer ppu, s.ioWrite r v =
      { s with iflag := iflag, oam := oam, io := io, joypad := joypad, serial := serial, timer := timer, ppu := ppu } := by
  cases r with
  | dma =>
    obtain ⟨m, hm⟩ := s.dmaWrite_eq v
    exact ⟨_, m, _, _, _, _, _, hm⟩
  | _ => exact ⟨_, _, _, _, _, _, _, rfl⟩

/-- What a write can change: the memory arrays but the cartridge image, the device registers, IE and IF. -/
theorem State.write_eq (s : State) (a : Word) (v : Byte) :
    ∃ ie iflag extRam vram wram oam hram io mbc joypad serial timer ppu, s.write a v =
      { s with
        ie := ie, iflag := iflag, extRam := extRam, vram := vram, wram := wram, oam := oam, hram := hram, io := io
        mbc := mbc, joypad := joypad, serial := serial, timer := timer, ppu := ppu } := by
  unfold State.write
  split
  · unfold State.bankWriteLow; split <;> exact ⟨_, _, _, _, _, _, _, _, _, _, _, _, _, rfl⟩
  · unfold State.bankWriteHigh; split <;> exact ⟨_, _, _, _, _, _, _, _, _, _, _, _, _, rfl⟩
  · split <;> exact ⟨_, _, _, _, _, _, _, _, _, _, _, _, _, rfl⟩
  · split <;> exact ⟨_, _, _, _, _, _, _, _, _, _, _, _, _, rfl⟩
  · exact ⟨_, _, _, _, _, _, _, _, _, _, _, _, _, rfl⟩
  · split <;> exact ⟨_, _, _, _, _, _, _, _, _, _, _, _, _, rfl⟩
  · exact ⟨_, _, _, _, _, _, _, _, _, _, _, _, _, rfl⟩
  · next off _ =>
    obtain ⟨f, o, i, j, se, t, p, h⟩ := State.ioWrite_eq s (ioRegOf off) v
    exact ⟨s.ie, f, s.extRam, s.vram, s.wram, o, s.hram, i, s.mbc, j, se, t, p, h⟩
  · exact ⟨_, _, _, _, _, _, _, _, _, _, _, _, _, rfl⟩
  · exact ⟨_, _, _, _, _, _, _, _, _, _, _, _, _, rfl⟩

section
variable (s : State) (a : Word) (v : Byte)

@[simp] theorem State.write_cpu : (s.write a v).cpu = s.cpu := by
  obtain ⟨_, _, _, _, _, _, _, _, _, _, _, _, _, h⟩ := s.write_eq a v; rw [h]
@[simp] theorem State.write_rom : (s.write a v).rom = s.rom := by
  obtain ⟨_, _, _, _, _, _, _, _, _, _, _, _, _, h⟩ := s.write_eq a v; rw [h]
@[simp] theorem State.write_params : (s.write a v).params = s.params := by
  obtain ⟨_, _, _, _, _, _, _, _, _, _, _, _, _, h⟩ := s.write_eq a v; rw [h]
@[simp] theorem State.write_cost : (s.write a v).cost = s.cost := by
  obtain ⟨_, _, _, _, _, _, _, _, _, _, _, _, _, h⟩ := s.write_eq a v; rw [h]
@[simp] theorem State.write_draws : (s.write a v).draws = s.draws := by
  obtain ⟨_, _, _, _, _, _, _, _, _, _, _, _, _, h⟩ := s.write_eq a v; rw [h]
@[simp] theorem State.write_inputs : (s.write a v).inputs = s.inputs := by
  obtain ⟨_, _, _, _, _, _, _, _, _, _, _, _, _, h⟩ := s.write_eq a v; rw [h]

/-- A write looks at nothing of the CPU. -/
theorem State.write_cpu_cost (c : Cpu) (k : Nat) :
    State.write { s with cpu := c, cost := k } a v = { s.write a v with cpu := c, cost := k } := by
  unfold State.write
  split
  · simp only [State.bankWriteLow]; split <;> rfl
  · simp only [State.bankWriteHigh]; split <;> rfl
  · dsimp only; split <;> rfl
  · next off _ =>
    show (match s.extRamOffset off with | some at_ => _ | none => _) = _
    cases s.extRamOffset off <;> rfl
  · rfl
  · dsimp only; split <;> rfl
  · rfl
  · next off _ =>
    cases ioRegOf off with
    | dma => exact State.dmaWrite_cpu_cost s v c k
    | _ => rfl
  · rfl
  · rfl

theorem State.write_of_cpu (c : Cpu) : State.write { s with cpu := c } a v = { s.write a v with cpu := c } := by
  have h := s.write_cpu_cost a v c s.cost
  have hc : { s.write a v with cpu := c, cost := s.cost } = { s.write a v with cpu := c } := by
    rw [← s.write_cost a v]
  exact h.trans hc

@[simp] theorem State.write_fetched (n : Nat) : (s.fetched n).write a v = { s.write a v with cpu := (s.fetched n).cpu } :=
  s.write_of_cpu a v (s.fetched n).cpu

end

/-! ### The stack -/

/-- A push writes the high byte, then the low byte, and moves SP. -/
theorem State.push16_eq (s : State) (w : Word) :
    s.push16 w = ((s.write (s.cpu.sp - 1#16) (hiByte w)).write (s.cpu.sp - 2#16) (loByte w)).setSp (s.cpu.sp - 2#16) := rfl

/-! ### Finishing -/

@[simp] theorem State.finish_eq (s : State) (k : OpKey) (taken : Bool) :
    s.finish k taken = .next (s.withCost (cycleCost s.params k taken)) := rfl

end Sys2Proof.Machine
end

