-- ==== Sys2Proof/Tests/Slice0.lean ====
section
/-! SUPPORT. Tests: the well-formedness check, decoding by words written out from the spec's encodings, the spec's own vectors
(95_test_vectors.md, and the examples of the rules, named beside each test), and a witness for the hypotheses of each
statement that has some. -/

namespace Sys2Proof.Tests

open Sys2Proof Sys2Proof.Machine Sys2Proof.Claims

/-! ### Well-formedness -/

/-- The one check: the prefix row is no instruction by itself (30_encoding.md R160). -/
theorem test_wellFormed_refuses_prefix : (Instr.prefix_cb 0x00#8).wellFormed = false := by decide
theorem test_wellFormed_accepts_operands : (Instr.stop 0xFF#8).wellFormed = true ∧ (Instr.jp_n16 0xFFFF#16).wellFormed = true := by
  decide

/-! ### Decoding: every constructor, by the fields of its encoding (30_encoding.md R162 to R170) -/

theorem test_decode_ld_reg_reg (n m : Byte) (dst src : Reg8) :
    decodeBytes (0b01#2 ++ dst.code ++ src.code) n m = .ldRegReg dst src := by cases dst <;> cases src <;> rfl
theorem test_decode_ld_reg_imm (n m : Byte) (dst : Reg8) :
    decodeBytes (0b00#2 ++ dst.code ++ 0b110#3) n m = .ldRegImm dst n := by cases dst <;> rfl
theorem test_decode_ld_reg_mem (n m : Byte) (dst : Reg8) :
    decodeBytes (0b01#2 ++ dst.code ++ 0b110#3) n m = .ldRegMem dst := by cases dst <;> rfl
theorem test_decode_ld_mem_reg (n m : Byte) (src : Reg8) :
    decodeBytes (0b01110#5 ++ src.code) n m = .ldMemReg src := by cases src <;> rfl
theorem test_decode_accumulator_loads (n m : Byte) :
    decodeBytes 0x02#8 n m = .ld_atBC_a ∧ decodeBytes 0x12#8 n m = .ld_atDE_a ∧ decodeBytes 0x22#8 n m = .ld_atHLI_a ∧
      decodeBytes 0x32#8 n m = .ld_atHLD_a ∧ decodeBytes 0x0A#8 n m = .ld_a_atBC ∧ decodeBytes 0x1A#8 n m = .ld_a_atDE ∧
      decodeBytes 0x2A#8 n m = .ld_a_atHLI ∧ decodeBytes 0x3A#8 n m = .ld_a_atHLD ∧
      decodeBytes 0x36#8 n m = .ld_atHL_n8 n ∧ decodeBytes 0xE0#8 n m = .ldh_atN8_a n ∧
      decodeBytes 0xF0#8 n m = .ldh_a_atN8 n ∧ decodeBytes 0xE2#8 n m = .ldh_atC_a ∧ decodeBytes 0xF2#8 n m = .ldh_a_atC :=
  ⟨rfl, rfl, rfl, rfl, rfl, rfl, rfl, rfl, rfl, rfl, rfl, rfl, rfl⟩
/-- The low operand byte comes first (R166). -/
theorem test_decode_absolute_loads :
    decodeBytes 0xEA#8 0x34#8 0xC2#8 = .ld_atN16_a 0xC234#16 ∧ decodeBytes 0xFA#8 0x34#8 0xC2#8 = .ld_a_atN16 0xC234#16 ∧
      decodeBytes 0x08#8 0x00#8 0xC1#8 = .ld_atN16_sp 0xC100#16 := by decide
theorem test_decode_pair_loads (p : RegPair) :
    decodeBytes (0b00#2 ++ p.code ++ 0b0001#4) 0x34#8 0x12#8 = .ldPairImm p 0x1234#16 := by cases p <;> rfl
theorem test_decode_push_pop (n m : Byte) (p : StackPair) :
    decodeBytes (0b11#2 ++ p.code ++ 0b0101#4) n m = .push p ∧ decodeBytes (0b11#2 ++ p.code ++ 0b0001#4) n m = .pop p := by
  cases p <;> exact ⟨rfl, rfl⟩
theorem test_decode_sp_forms (n m : Byte) :
    decodeBytes 0xF8#8 n m = .ld_hl_spE8 n ∧ decodeBytes 0xF9#8 n m = .ld_sp_hl ∧ decodeBytes 0xE8#8 n m = .add_sp_e8 n :=
  ⟨rfl, rfl, rfl⟩
theorem test_decode_alu_reg (n m : Byte) (op : AluOp) (r : Reg8) :
    decodeBytes (0b10#2 ++ op.code ++ r.code) n m = .aluReg op r := by cases op <;> cases r <;> rfl
theorem test_decode_alu_mem_imm (n m : Byte) (op : AluOp) :
    decodeBytes (0b10#2 ++ op.code ++ 0b110#3) n m = .aluMem op ∧
      decodeBytes (0b11#2 ++ op.code ++ 0b110#3) n m = .aluImm op n := by cases op <;> exact ⟨rfl, rfl⟩
theorem test_decode_inc_dec_reg (n m : Byte) (r : Reg8) :
    decodeBytes (0b00#2 ++ r.code ++ 0b100#3) n m = .incReg r ∧ decodeBytes (0b00#2 ++ r.code ++ 0b101#3) n m = .decReg r := by
  cases r <;> exact ⟨rfl, rfl⟩
theorem test_decode_inc_dec_mem (n m : Byte) :
    decodeBytes 0x34#8 n m = .inc_atHL ∧ decodeBytes 0x35#8 n m = .dec_atHL := ⟨rfl, rfl⟩
theorem test_decode_adjustments (n m : Byte) :
    decodeBytes 0x27#8 n m = .daa ∧ decodeBytes 0x2F#8 n m = .cpl ∧ decodeBytes 0x37#8 n m = .scf ∧
      decodeBytes 0x3F#8 n m = .ccf := ⟨rfl, rfl, rfl, rfl⟩
theorem test_decode_pair_arithmetic (n m : Byte) (p : RegPair) :
    decodeBytes (0b00#2 ++ p.code ++ 0b1001#4) n m = .addHl p ∧ decodeBytes (0b00#2 ++ p.code ++ 0b0011#4) n m = .incPair p ∧
      decodeBytes (0b00#2 ++ p.code ++ 0b1011#4) n m = .decPair p := by cases p <;> exact ⟨rfl, rfl, rfl⟩
theorem test_decode_accumulator_rotates (n m : Byte) :
    decodeBytes 0x07#8 n m = .rlca ∧ decodeBytes 0x0F#8 n m = .rrca ∧ decodeBytes 0x17#8 n m = .rla ∧
      decodeBytes 0x1F#8 n m = .rra := ⟨rfl, rfl, rfl, rfl⟩
theorem test_decode_cb_rotates (m : Byte) (k : RotKind) (r : Reg8) :
    decodeBytes 0xCB#8 (0b00#2 ++ k.code ++ r.code) m = .rot k (.reg r) ∧
      decodeBytes 0xCB#8 (0b00#2 ++ k.code ++ 0b110#3) m = .rot k .atHL := by cases k <;> cases r <;> exact ⟨rfl, rfl⟩
theorem test_decode_cb_bit (m : Byte) : ∀ (b : Fin 8) (r : Reg8),
    decodeBytes 0xCB#8 (0b01#2 ++ BitVec.ofNat 3 b.val ++ r.code) m = .bit b (.reg r) ∧
      decodeBytes 0xCB#8 (0b01#2 ++ BitVec.ofNat 3 b.val ++ 0b110#3) m = .bit b .atHL
  | 0, r | 1, r | 2, r | 3, r | 4, r | 5, r | 6, r | 7, r => by cases r <;> exact ⟨rfl, rfl⟩
theorem test_decode_cb_res (m : Byte) : ∀ (b : Fin 8) (r : Reg8),
    decodeBytes 0xCB#8 (0b10#2 ++ BitVec.ofNat 3 b.val ++ r.code) m = .res b (.reg r) ∧
      decodeBytes 0xCB#8 (0b10#2 ++ BitVec.ofNat 3 b.val ++ 0b110#3) m = .res b .atHL
  | 0, r | 1, r | 2, r | 3, r | 4, r | 5, r | 6, r | 7, r => by cases r <;> exact ⟨rfl, rfl⟩
theorem test_decode_cb_set (m : Byte) : ∀ (b : Fin 8) (r : Reg8),
    decodeBytes 0xCB#8 (0b11#2 ++ BitVec.ofNat 3 b.val ++ r.code) m = .set b (.reg r) ∧
      decodeBytes 0xCB#8 (0b11#2 ++ BitVec.ofNat 3 b.val ++ 0b110#3) m = .set b .atHL
  | 0, r | 1, r | 2, r | 3, r | 4, r | 5, r | 6, r | 7, r => by cases r <;> exact ⟨rfl, rfl⟩
theorem test_decode_jumps (n m : Byte) :
    decodeBytes 0xC3#8 0x50#8 0x01#8 = .jp_n16 0x0150#16 ∧ decodeBytes 0xE9#8 n m = .jp_hl ∧
      decodeBytes 0x18#8 n m = .jr_e8 n ∧ decodeBytes 0xCD#8 0x00#8 0xC1#8 = .call_n16 0xC100#16 ∧
      decodeBytes 0xC9#8 n m = .ret ∧ decodeBytes 0xD9#8 n m = .reti := ⟨rfl, rfl, rfl, rfl, rfl, rfl⟩
theorem test_decode_conditional_control (n m : Byte) (cc : Cond) :
    decodeBytes (0b110#3 ++ cc.code ++ 0b010#3) 0x50#8 0x01#8 = .jpCond cc 0x0150#16 ∧
      decodeBytes (0b001#3 ++ cc.code ++ 0b000#3) n m = .jrCond cc n ∧
      decodeBytes (0b110#3 ++ cc.code ++ 0b100#3) 0x00#8 0xC1#8 = .callCond cc 0xC100#16 ∧
      decodeBytes (0b110#3 ++ cc.code ++ 0b000#3) n m = .retCond cc := by cases cc <;> exact ⟨rfl, rfl, rfl, rfl⟩
theorem test_decode_rst (n m : Byte) : ∀ y : Fin 8, decodeBytes (0b11#2 ++ BitVec.ofNat 3 y.val ++ 0b111#3) n m = .rst y
  | 0 | 1 | 2 | 3 | 4 | 5 | 6 | 7 => rfl
theorem test_decode_system (n m : Byte) :
    decodeBytes 0x00#8 n m = .nop ∧ decodeBytes 0x10#8 n m = .stop n ∧ decodeBytes 0x76#8 n m = .halt ∧
      decodeBytes 0xF3#8 n m = .di ∧ decodeBytes 0xFB#8 n m = .ei := ⟨rfl, rfl, rfl, rfl, rfl⟩
theorem test_decode_illegal (n m : Byte) (b : IllegalByte) : decodeBytes b.byte n m = .illegal b := by cases b <;> rfl
/-- Too few bytes are rejected by name. -/
theorem test_decode_truncated :
    (decode []).toOption = none ∧ (decode [0xC3#8, 0x50#8]).toOption = none ∧ (decode [0xCB#8]).toOption = none := by decide
/-- The prefix row's own word (30_encoding.md R160), and a `cb` row as the opcode table numbers it. -/
theorem test_decodeTableWord : decodeTableWord 8 0x76 = some .halt ∧ decodeTableWord 16 0x7CCB = some .bit_7_h ∧
    decodeTableWord 24 0x0150C3 = some (.jp_n16 0x0150#16) := by decide

/-! ### Machines for the tests -/

/-- The reset state with other CPU registers, and bytes in WRAM by offset. -/
def machine (c : Cpu) (wram : Ram := []) : State := { State.reset with cpu := c, wram := wram }

/-- The vectors' CPU: reset with PC = 0xC000. -/
def at0 : Cpu := { Cpu.reset with pc := 0xC000#16 }

/-- What is seen of the state `exec` answers. -/
def seen {α : Type} (i : Instr) (s : State) (view : State → α) : Option α :=
  match exec i s with
  | .next t => some (view t)
  | _ => none

/-- A and F after an instruction, from A, F and B. -/
def af (i : Instr) (a f b : Byte) : Option (Byte × Byte) :=
  seen i (machine { at0 with a := a, f := f, b := b }) fun t => (t.cpu.a, t.cpu.f)

/-- B and F after an instruction, from B and F. -/
def bf (i : Instr) (b f : Byte) : Option (Byte × Byte) :=
  seen i (machine { at0 with b := b, f := f }) fun t => (t.cpu.b, t.cpu.f)

/-- The byte at HL = 0xC100 and F after an instruction, from that byte and F. -/
def mf (i : Instr) (v f : Byte) : Option (Byte × Byte) :=
  seen i (machine { at0 with h := 0xC1#8, l := 0x00#8, f := f } [(0x100, v)]) fun t => (t.read 0xC100#16, t.cpu.f)

/-- PC, SP and the cost after an instruction at 0xC000, from F and SP = 0xCFFE where 0x0159 is stored. -/
def flow (i : Instr) (f : Byte) : Option (Word × Word × Nat) :=
  seen i (machine { at0 with f := f, sp := 0xCFFE#16 } [(0xFFE, 0x59#8), (0xFFF, 0x01#8)]) fun t =>
    (t.cpu.pc, t.cpu.sp, t.cost)

/-! ### Loads: V1 to V30 -/

theorem test_ld_b_c : seen .ld_b_c (machine at0) (fun t => (t.cpu.b, t.cpu.pc, t.cost)) = some (0x13#8, 0xC001#16, 4) := by decide
theorem test_ld_a_n8 : seen (.ld_a_n8 0x42#8) (machine at0) (fun t => (t.cpu.a, t.cpu.pc, t.cost)) = some (0x42#8, 0xC002#16, 8) := by
  decide
theorem test_ld_h_atHL : seen .ld_h_atHL (machine { at0 with h := 0xC1#8, l := 0#8 } [(0x100, 0x99#8)]) (fun t => t.cpu.h) =
    some 0x99#8 := by decide
theorem test_ld_atHL_e : mf .ld_atHL_e 0x00#8 0xB0#8 = some (0xD8#8, 0xB0#8) := by decide
theorem test_ld_atHL_n8 : mf (.ld_atHL_n8 0x5A#8) 0x00#8 0xB0#8 = some (0x5A#8, 0xB0#8) := by decide
theorem test_ld_a_atBC : seen .ld_a_atBC (machine { at0 with b := 0xC1#8, c := 0x02#8 } [(0x102, 0x5E#8)]) (fun t => t.cpu.a) =
    some 0x5E#8 := by decide
theorem test_ld_atDE_a : seen .ld_atDE_a (machine { at0 with d := 0xC1#8, e := 0x03#8, a := 0xA7#8 })
    (fun t => t.read 0xC103#16) = some 0xA7#8 := by decide
theorem test_ld_atN16_a : seen (.ld_atN16_a 0xC234#16) (machine { at0 with a := 0x3C#8 }) (fun t => t.read 0xC234#16) =
    some 0x3C#8 := by decide
theorem test_ldh_a_atN8_reads_if : seen (.ldh_a_atN8 0x0F#8) { machine at0 with iflag := 0b00101#5 } (fun t => t.cpu.a) =
    some 0xE5#8 := by decide
theorem test_ldh_atC_a : seen .ldh_atC_a (machine { at0 with a := 0x77#8, c := 0x81#8 }) (fun t => t.read 0xFF81#16) =
    some 0x77#8 := by decide
theorem test_ld_atHLI_a_wraps : seen .ld_atHLI_a (machine { at0 with a := 0x15#8, h := 0xFF#8, l := 0xFF#8 })
    (fun t => (t.hl, t.ie)) = some (0x0000#16, 0x15#8) := by decide
theorem test_ld_a_atHLD_wraps : seen .ld_a_atHLD { machine { at0 with h := 0#8, l := 0#8 } with rom := [(0, 0xC7#8)] }
    (fun t => (t.cpu.a, t.hl)) = some (0xC7#8, 0xFFFF#16) := by decide
theorem test_store_into_rom_enables_ram : seen (.ld_atHL_n8 0x0A#8) (machine { at0 with h := 0#8, l := 0#8 })
    (fun t => (t.read 0x0000#16, t.mbc.ramEnabled)) = some (0x00#8, true) := by decide
theorem test_ld_atN16_sp : seen (.ld_atN16_sp 0xC100#16) (machine { at0 with sp := 0xABCD#16 })
    (fun t => (t.read 0xC100#16, t.read 0xC101#16)) = some (0xCD#8, 0xAB#8) := by decide
theorem test_push_af : seen .push_af (machine { at0 with a := 0x12#8, sp := 0xD000#16 })
    (fun t => (t.read 0xCFFF#16, t.read 0xCFFE#16, t.cpu.sp)) = some (0x12#8, 0xB0#8, 0xCFFE#16) := by decide
theorem test_push_bc_wraps_into_ie : seen .push_bc (machine { at0 with b := 0x0A#8, c := 0x55#8, sp := 0x0001#16 })
    (fun t => (t.ie, t.mbc.ramEnabled, t.cpu.sp)) = some (0x55#8, true, 0xFFFF#16) := by decide
theorem test_pop_af_drops_low_nibble : seen .pop_af (machine { at0 with sp := 0xCFFE#16 } [(0xFFE, 0xFF#8), (0xFFF, 0x12#8)])
    (fun t => (t.cpu.a, t.cpu.f, t.cpu.sp)) = some (0x12#8, 0xF0#8, 0xD000#16) := by decide
theorem test_ld_hl_spE8 : seen (.ld_hl_spE8 0xFF#8) (machine { at0 with sp := 0xFFFF#16 }) (fun t => (t.hl, t.cpu.f)) =
    some (0xFFFE#16, 0x30#8) := by decide
theorem test_ld_hl_spE8_negative : seen (.ld_hl_spE8 0xFE#8) (machine { at0 with sp := 0x0001#16 }) (fun t => (t.hl, t.cpu.f)) =
    some (0xFFFF#16, 0x00#8) := by decide

/-! ### Arithmetic and logic: V40 to V90 -/

theorem test_add_carries : af (.add_a_n8 0x01#8) 0xFF#8 0x00#8 0#8 = some (0x00#8, 0xB0#8) := by decide
theorem test_add_half : af .add_a_b 0x0F#8 0xF0#8 0x01#8 = some (0x10#8, 0x20#8) := by decide
theorem test_adc_carry_in : af (.adc_a_n8 0xFF#8) 0x00#8 0x10#8 0#8 = some (0x00#8, 0xB0#8) := by decide
theorem test_sub_half : af .sub_b 0x10#8 0x00#8 0x01#8 = some (0x0F#8, 0x60#8) := by decide
theorem test_sbc_carry_in : af (.sbc_a_n8 0xFF#8) 0x00#8 0x10#8 0#8 = some (0x00#8, 0xF0#8) := by decide
theorem test_sbc_half : af .sbc_a_b 0x10#8 0x10#8 0x0F#8 = some (0x00#8, 0xE0#8) := by decide
theorem test_cp_equal : af (.cp_n8 0x90#8) 0x90#8 0x00#8 0#8 = some (0x90#8, 0xC0#8) := by decide
theorem test_cp_less : af (.cp_n8 0x91#8) 0x90#8 0x00#8 0#8 = some (0x90#8, 0x70#8) := by decide
theorem test_and : af (.and_n8 0x0F#8) 0xF0#8 0x50#8 0#8 = some (0x00#8, 0xA0#8) := by decide
theorem test_xor_self : af .xor_a 0x5A#8 0xF0#8 0#8 = some (0x00#8, 0x80#8) := by decide
theorem test_or : af .or_b 0x50#8 0xF0#8 0x0A#8 = some (0x5A#8, 0x00#8) := by decide
theorem test_inc_a : af .inc_a 0x0F#8 0x10#8 0#8 = some (0x10#8, 0x30#8) := by decide
theorem test_inc_a_wraps : af .inc_a 0xFF#8 0x00#8 0#8 = some (0x00#8, 0xA0#8) := by decide
theorem test_dec_b_wraps : bf .dec_b 0x00#8 0x10#8 = some (0xFF#8, 0x70#8) := by decide
theorem test_inc_atHL : mf .inc_atHL 0xFF#8 0x00#8 = some (0x00#8, 0xA0#8) := by decide
theorem test_dec_atHL : mf .dec_atHL 0x01#8 0x10#8 = some (0x00#8, 0xD0#8) := by decide
theorem test_daa_add : af .daa 0x9A#8 0x00#8 0#8 = some (0x00#8, 0x90#8) := by decide
theorem test_daa_sub : af .daa 0x00#8 0x70#8 0#8 = some (0x9A#8, 0x50#8) := by decide
theorem test_cpl : af .cpl 0x35#8 0x90#8 0#8 = some (0xCA#8, 0xF0#8) := by decide
theorem test_scf : af .scf 0x00#8 0xE0#8 0#8 = some (0x00#8, 0x90#8) := by decide
theorem test_ccf : af .ccf 0x00#8 0xF0#8 0#8 = some (0x00#8, 0x80#8) := by decide
theorem test_add_hl_bc : seen .add_hl_bc (machine { at0 with h := 0x0F#8, l := 0xFF#8, b := 0#8, c := 1#8, f := 0xC0#8 })
    (fun t => (t.hl, t.cpu.f)) = some (0x1000#16, 0xA0#8) := by decide
theorem test_add_hl_hl : seen .add_hl_hl (machine { at0 with h := 0x80#8, l := 0#8, f := 0#8 }) (fun t => (t.hl, t.cpu.f)) =
    some (0x0000#16, 0x10#8) := by decide
theorem test_inc_bc_wraps : seen .inc_bc (machine { at0 with b := 0xFF#8, c := 0xFF#8 }) (fun t => (t.bc, t.cpu.f)) =
    some (0x0000#16, 0xB0#8) := by decide
theorem test_dec_sp_wraps : seen .dec_sp (machine { at0 with sp := 0#16 }) (fun t => t.cpu.sp) = some 0xFFFF#16 := by decide
theorem test_add_sp_e8_negative : seen (.add_sp_e8 0x80#8) (machine { at0 with sp := 0xD080#16 }) (fun t => (t.cpu.sp, t.cpu.f)) =
    some (0xD000#16, 0x10#8) := by decide
theorem test_add_sp_e8_half : seen (.add_sp_e8 0x08#8) (machine { at0 with sp := 0xD008#16 }) (fun t => (t.cpu.sp, t.cpu.f)) =
    some (0xD010#16, 0x20#8) := by decide

/-! ### Rotates, shifts, bits: V100 to V123 -/

theorem test_rlca_clears_z : af .rlca 0x00#8 0xF0#8 0#8 = some (0x00#8, 0x00#8) := by decide
theorem test_rrca : af .rrca 0x01#8 0x00#8 0#8 = some (0x80#8, 0x10#8) := by decide
theorem test_rla_carry_in : af .rla 0x00#8 0x10#8 0#8 = some (0x01#8, 0x00#8) := by decide
theorem test_rra : af .rra 0x01#8 0x10#8 0#8 = some (0x80#8, 0x10#8) := by decide
theorem test_rlc_b : bf .rlc_b 0x80#8 0x00#8 = some (0x01#8, 0x10#8) := by decide
theorem test_rrc_b : bf .rrc_b 0x01#8 0x00#8 = some (0x80#8, 0x10#8) := by decide
theorem test_rl_b_to_zero : bf .rl_b 0x80#8 0x00#8 = some (0x00#8, 0x90#8) := by decide
theorem test_rr_a_carry_in : af .rr_a 0x00#8 0x10#8 0#8 = some (0x80#8, 0x00#8) := by decide
theorem test_sla_b : bf .sla_b 0xFF#8 0x00#8 = some (0xFE#8, 0x10#8) := by decide
theorem test_sra_b_keeps_sign : bf .sra_b 0x81#8 0x00#8 = some (0xC0#8, 0x10#8) := by decide
theorem test_srl_b_to_zero : bf .srl_b 0x01#8 0x00#8 = some (0x00#8, 0x90#8) := by decide
theorem test_swap_a : af .swap_a 0xF0#8 0xF0#8 0#8 = some (0x0F#8, 0x00#8) := by decide
theorem test_rlc_atHL : mf .rlc_atHL 0x85#8 0x00#8 = some (0x0B#8, 0x10#8) := by decide
theorem test_sra_atHL : mf .sra_atHL 0x01#8 0x00#8 = some (0x00#8, 0x90#8) := by decide
theorem test_bit_7_h : seen .bit_7_h (machine { at0 with h := 0x7F#8, f := 0x40#8 }) (fun t => t.cpu.f) = some 0xA0#8 := by decide
theorem test_bit_0_atHL : mf .bit_0_atHL 0xFE#8 0x00#8 = some (0xFE#8, 0xA0#8) := by decide
theorem test_res_0_atHL : mf .res_0_atHL 0xFF#8 0xF0#8 = some (0xFE#8, 0xF0#8) := by decide
theorem test_set_1_atHL : mf .set_1_atHL 0x00#8 0xB0#8 = some (0x02#8, 0xB0#8) := by decide
theorem test_set_7_a : af .set_7_a 0x00#8 0x00#8 0#8 = some (0x80#8, 0x00#8) := by decide

/-! ### Control and system: V130 to V179 -/

theorem test_jp_n16 : flow (.jp_n16 0x0150#16) 0x00#8 = some (0x0150#16, 0xCFFE#16, 16) := by decide
theorem test_jp_z_not_taken : flow (.jp_z_n16 0x0150#16) 0x00#8 = some (0xC003#16, 0xCFFE#16, 12) := by decide
theorem test_jr_self : flow (.jr_e8 0xFE#8) 0x00#8 = some (0xC000#16, 0xCFFE#16, 12) := by decide
theorem test_jr_far_back : flow (.jr_e8 0x80#8) 0x00#8 = some (0xBF82#16, 0xCFFE#16, 12) := by decide
theorem test_jr_nz_not_taken : flow (.jr_nz_e8 0x05#8) 0x80#8 = some (0xC002#16, 0xCFFE#16, 8) := by decide
theorem test_call_pushes_next : seen (.call_n16 0xC100#16) (machine { at0 with sp := 0xD000#16 })
    (fun t => (t.cpu.pc, t.read 0xCFFF#16, t.read 0xCFFE#16, t.cost)) = some (0xC100#16, 0xC0#8, 0x03#8, 24) := by decide
theorem test_call_nc_not_taken : flow (.call_nc_n16 0xC100#16) 0x10#8 = some (0xC003#16, 0xCFFE#16, 12) := by decide
theorem test_ret : flow .ret 0x00#8 = some (0x0159#16, 0xD000#16, 16) := by decide
theorem test_ret_c_taken : flow .ret_c 0x10#8 = some (0x0159#16, 0xD000#16, 20) := by decide
theorem test_ret_c_not_taken : flow .ret_c 0x00#8 = some (0xC001#16, 0xCFFE#16, 8) := by decide
theorem test_reti_sets_ime : seen .reti (machine { at0 with sp := 0xCFFE#16 } [(0xFFE, 0x59#8), (0xFFF, 0x01#8)])
    (fun t => (t.cpu.pc, t.cpu.ime)) = some (0x0159#16, true) := by decide
theorem test_rst_38h : seen .rst_38h (machine { at0 with sp := 0xD000#16 })
    (fun t => (t.cpu.pc, t.read 0xCFFF#16, t.read 0xCFFE#16)) = some (0x0038#16, 0xC0#8, 0x01#8) := by decide
theorem test_stop_skips_padding : flow (.stop 0x55#8) 0x00#8 = some (0xC002#16, 0xCFFE#16, 4) := by decide
theorem test_di : seen .di (machine { at0 with ime := true, pendingIme := true }) (fun t => (t.cpu.ime, t.cpu.pendingIme)) =
    some (false, false) := by decide
theorem test_halt_mask : seen .halt { machine at0 with ie := 0xE0#8 } (fun t => (t.cpu.halted, t.cpu.haltBug)) =
    some (true, false) := by decide
theorem test_halt_bug : seen .halt { machine at0 with ie := 0x01#8, iflag := 0b00001#5 } (fun t => (t.cpu.halted, t.cpu.haltBug)) =
    some (false, true) := by decide

/-! ### Steps -/

/-- What is seen of the state a step answers. -/
def stepSeen {α : Type} (s : State) (view : State → α) : Option α :=
  match step s with
  | .next t => some (view t)
  | _ => none

/-- What is seen of the state a CPU step answers. -/
def cpuSeen {α : Type} (s : State) (view : State → α) : Option α :=
  match s.cpuStep with
  | .next t => some (view t)
  | _ => none

/-- V170: the lowest pending source is dispatched, and only its bit is cleared. -/
theorem test_dispatch_priority :
    cpuSeen { machine { at0 with ime := true, sp := 0xD000#16 } with ie := 0x1F#8, iflag := 0b11111#5 }
      (fun t => (t.cpu.pc, t.iflag, t.cpu.ime, t.read 0xCFFF#16, t.cost)) = some (0x0040#16, 0b11110#5, false, 0xC0#8, 20) := by
  decide
/-- V174: a halted CPU with IME = 0 wakes and runs the next instruction in the same step. -/
theorem test_wake_runs_next :
    stepSeen { machine { at0 with halted := true, a := 0#8 } [(0, 0x3C#8)] with ie := 0x04#8, iflag := 0b00100#5 }
      (fun t => (t.cpu.a, t.cpu.halted)) = some (0x01#8, false) := by decide
/-- V176: an undefined opcode. -/
theorem test_undefined_opcode :
    (match step (machine at0 [(0, 0xDD#8)]) with
      | .fault (.undefinedOpcode b pc left) => some (b, pc, left.cpu.pc)
      | _ => none) = some (0xDD#8, 0xC000#16, 0xC001#16) := by decide
/-- S2, first instruction, placed by `withFetchWord` (spec scenario 2). -/
theorem test_withFetchWord :
    stepSeen (State.reset.withFetchWord 16 0x423E) (fun t => (t.cpu.a, t.cpu.pc, t.timer.divCounter)) =
      some (0x42#8, 0x0102#16, 8#16) := by decide
/-- S4a: the idle step of a halted CPU. -/
theorem test_idle_step : stepSeen (machine { at0 with halted := true }) (fun t => (t.cpu.pc, t.cost)) = some (0xC000#16, 4) := by
  decide

/-! ### The MMU and the devices: M1 to M10, T1, T3, Q4 -/

theorem test_echo : (State.reset.write 0xFDFF#16 0x56#8).read 0xDDFF#16 = 0x56#8 := by decide
/-- M3: bank 0 is promoted to 1 in the low bits. -/
theorem test_bank_promoted :
    ((State.reset.write 0x4000#16 0x01#8).write 0x2100#16 0x00#8).mbc = { Mbc1.reset with bank1 := 1#5, bank2 := 1#2 } := by decide
theorem test_joyp_reads : (State.reset.write 0xFF00#16 0x20#8).read 0xFF00#16 = 0xEF#8 := by decide
/-- M7: a press in a selected row lowers its line and sets IF bit 4. -/
theorem test_press_requests :
    let t := (State.reset.write 0xFF00#16 0x20#8).pressButton 0
    (t.read 0xFF00#16, t.iflag) = (0xEE#8, 0b10000#5) := by decide
theorem test_press_unselected : ((State.reset.write 0xFF00#16 0x20#8).pressButton 4).iflag = 0#5 := by decide
theorem test_serial_hands_over : ((State.reset.write 0xFF01#16 0x41#8).write 0xFF02#16 0x81#8).serial.sent = [0x41#8] := by decide
theorem test_stat_write : (State.reset.write 0xFF41#16 0xFF#8).read 0xFF41#16 = 0xFE#8 := by decide
/-- T3: after a change of rate the accumulated cycles give one increment a tick. -/
theorem test_timer_rate_change :
    let t := TimerBus.tick { timer := { Timer.reset with tac := 0x05#8, timaAcc := 700 }, iflag := 0#5 }
    (t.timer.tima, t.timer.timaAcc) = (0x01#8, 685) := by decide
/-- T2: the overflow reloads TMA and sets IF bit 2. -/
theorem test_timer_overflow :
    let t := TimerBus.tick { timer := { Timer.reset with tac := 0x05#8, tima := 0xFF#8, tma := 0xF0#8, timaAcc := 15 }, iflag := 0#5 }
    (t.timer.tima, t.iflag) = (0xF0#8, 0b00100#5) := by decide
/-- Q4: the coincidence edge on a write of LYC. -/
theorem test_lyc_edge :
    let s := { State.reset with ppu := { Ppu.reset with ly := 5#8, coincidence := false, statEnable := 0b1000#4 } }
    ((s.write 0xFF45#16 0x05#8).iflag, ((s.write 0xFF45#16 0x05#8).write 0xFF45#16 0x05#8).ppu.coincidence) =
      (0b00010#5, true) := by decide

/-- frameReady returns the latch and clears it (R464). -/
theorem test_frameReady :
    let s := { State.reset with ppu := { Ppu.reset with frameReadyLatch := true } }
    (s.frameReady.1, s.frameReady.2.frameReady.1) = (true, false) := by decide
/-- STAT bit 5: the entry of mode 2 sets IF bit 1 (R465). -/
theorem test_mode2_interrupt :
    (PpuBus.tick 0 [] [] { ppu := { Ppu.reset with modeCycles := 455, mode := .hblank, statEnable := 0b0100#4 }, iflag := 0#5 }).iflag =
      0b00010#5 := by decide

/-- An array of `size` known bytes: those of the list, then zeros. -/
def listed (size : Nat) (bytes : List Byte) : Ram := (List.range size).map fun i => (i, bytes.getD i 0x00#8)
/-- Q5's VRAM, as far as line 0 reads it: row 0 of tiles 0, 1 and 2, and the first map row of both maps. -/
def q5Vram : Ram :=
  [(0x00, 0x00#8), (0x01, 0x00#8), (0x10, 0x3C#8), (0x11, 0x7E#8), (0x20, 0xFF#8), (0x21, 0x00#8)] ++
    (List.range 32).map (fun i => (0x1800 + i, if i = 0 then 0x01#8 else 0x00#8)) ++
    (List.range 32).map (fun i => (0x1C00 + i, if i = 0 then 0x02#8 else 0x00#8))
/-- Q5's OAM: entry 0 behind the background, entry 1 through OBP1. -/
def q5Oam : Ram := listed 160 [0x10#8, 0x0A#8, 0x02#8, 0x80#8, 0x10#8, 0x0C#8, 0x01#8, 0x10#8]
/-- Q5's registers. -/
def q5 : Ppu :=
  { Ppu.reset with lcdc := 0xF3#8, wx := 19#8, bgp := 0xE4#8, obp0 := 0xE4#8, obp1 := 0x1B#8, mode := .pixelTransfer, modeCycles := 251 }
/-- Q5: background, a sprite behind it and one before it, the window from column 12 on. -/
theorem test_q5 :
    [0, 1, 2, 5, 6, 7, 10, 11, 12, 19, 20].map (fun col => q5.pixel 0 q5Vram q5Oam (q5.lineSprites q5Oam) col) =
      [0#2, 2#2, 3#2, 3#2, 2#2, 1#2, 1#2, 0#2, 1#2, 1#2, 0#2] := by decide

/-! ### Witnesses: a state and operands that meet the hypotheses of a statement, each clause at a boundary of its range -/

/-- A ROM whose first instruction is one byte. -/
def romAt100 (b : Byte) : State := { State.reset with rom := [(0x100, b)] }

/-- A halted machine that an interrupt wakes. -/
def woken : State := { machine { at0 with halted := true } with ie := 0x10#8, iflag := 0b10000#5 }

theorem witness_step : ∃ t, step (romAt100 0x3C#8) = .next t := ⟨_, rfl⟩
theorem witness_cpuStep : ∃ t, (romAt100 0x3C#8).hostTurn.cpuStep = .next t := ⟨_, rfl⟩

/-- StepRunsTheDecodedInstruction, where `exec` answers a next state. -/
theorem witness_StepRuns_next : Runs (romAt100 0x3C#8).hostTurn ∧
    decode [(romAt100 0x3C#8).hostTurn.readAt .opcode 0x0100#16, (romAt100 0x3C#8).hostTurn.readAt .operand1 0x0101#16,
      (romAt100 0x3C#8).hostTurn.readAt .operand2 0x0102#16] = .ok (.inc_a, [0x00#8, 0x00#8]) ∧
    Instr.inc_a.wellFormed = true ∧ ∃ t, exec .inc_a (romAt100 0x3C#8).hostTurn.wake = .next t :=
  ⟨⟨rfl, by decide, by decide⟩, rfl, rfl, _, rfl⟩
/-- StepRunsTheDecodedInstruction, where `exec` raises. -/
theorem witness_StepRuns_fault : Runs (romAt100 0xDD#8).hostTurn ∧
    decode [(romAt100 0xDD#8).hostTurn.readAt .opcode 0x0100#16, (romAt100 0xDD#8).hostTurn.readAt .operand1 0x0101#16,
      (romAt100 0xDD#8).hostTurn.readAt .operand2 0x0102#16] = .ok (.illegal_dd, [0x00#8, 0x00#8]) ∧
    Instr.illegal_dd.wellFormed = true ∧ ∃ r, exec .illegal_dd (romAt100 0xDD#8).hostTurn.wake = .fault r :=
  ⟨⟨rfl, by decide, by decide⟩, rfl, rfl, _, rfl⟩
/-- `Runs` holds of a halted CPU that wakes. -/
theorem witness_Runs_halted : Runs woken := ⟨rfl, by decide, by decide⟩

theorem witness_DecodeGivesBack : (Instr.ld_hl_n16 0xFFFF#16).wellFormed = true := by decide
theorem witness_DecodedBytes : decode [0xC3#8, 0x50#8, 0x01#8, 0x07#8] = .ok (.jp_n16 0x0150#16, [0x07#8]) := rfl

/-- A machine with a one-byte program is sound. -/
theorem romAt100_sound_inc_a : (romAt100 0x3C#8).Sound :=
  ⟨by decide, ⟨by decide, by decide, by decide, by decide, by decide, by decide, by decide⟩, by decide,
    ⟨by decide, by decide, by decide, (by decide : (0 : Nat) < 80), by decide⟩, by decide,
    ⟨1, by decide, by decide, by decide⟩, by decide, by decide⟩
theorem romAt100_sound_undefined : (romAt100 0xDD#8).Sound :=
  ⟨by decide, ⟨by decide, by decide, by decide, by decide, by decide, by decide, by decide⟩, by decide,
    ⟨by decide, by decide, by decide, (by decide : (0 : Nat) < 80), by decide⟩, by decide,
    ⟨1, by decide, by decide, by decide⟩, by decide, by decide⟩
theorem witness_StepKeepsSoundness_next : (romAt100 0x3C#8).Sound ∧ ∃ t, step (romAt100 0x3C#8) = .next t :=
  ⟨romAt100_sound_inc_a, _, rfl⟩
theorem witness_StepKeepsSoundness_fault : (romAt100 0xDD#8).Sound ∧
    ∃ byte pc left, step (romAt100 0xDD#8) = .fault (.undefinedOpcode byte pc left) :=
  ⟨romAt100_sound_undefined, _, _, _, rfl⟩
theorem witness_FlagNibble : (romAt100 0x3C#8).cpu.f &&& 0x0F#8 = 0x00#8 ∧ ∃ t, step (romAt100 0x3C#8) = .next t :=
  ⟨by decide, _, rfl⟩

/-- PopReturnsWhatPushStored, in HRAM, and where SP wraps and the high byte goes to IE. -/
theorem witness_PopReturns : (ramAt State.reset 0xFFFD#16 = true ∧ ramAt State.reset 0xFFFC#16 = true ∧
    State.reset.cpu.f &&& 0x0F#8 = 0x00#8) ∧
    ramAt (machine { at0 with sp := 0#16 }) 0xFFFF#16 = true ∧ ramAt (machine { at0 with sp := 0#16 }) 0xFFFE#16 = true := by
  decide
theorem witness_AccumulatorAdjustments : State.reset.flagN = false ∧ (machine { at0 with f := 0x40#8 }).flagN = true := by decide
theorem witness_DaaMakes : (0 < 100 ∧ 99 < 100) ∧ (machine { at0 with a := 0x99#8, b := 0x00#8 }).cpu.a = bcd 99 ∧
    (machine { at0 with a := 0x99#8, b := 0x00#8 }).cpu.b = bcd 0 := by decide
theorem witness_Calls : holds .z State.reset = true ∧ holds .nc State.reset = false := by decide
/-- SystemInstructions, the clauses of HALT: IME set, nothing pending, the bug. -/
theorem witness_Halt : (machine { at0 with ime := true }).cpu.ime = true ∧
    State.reset.ie.toNat % 32 &&& State.reset.iflag.toNat = 0 ∧
    (State.reset.cpu.ime = false ∧ woken.ie.toNat % 32 &&& woken.iflag.toNat ≠ 0) := by decide
theorem witness_Locked : (machine { at0 with locked := some { byte := 0xDD#8, pc := 0#16 } }).hostTurn.cpu.locked =
    some { byte := 0xDD#8, pc := 0#16 } := by decide
theorem witness_OnlyTheEleven : decodeBytes 0xD3#8 0#8 0#8 = .illegal .xD3 ∧ ∀ b : IllegalByte, Instr.nop ≠ .illegal b :=
  ⟨rfl, fun b => by cases b <;> decide⟩
theorem witness_default_table : State.reset.params.cycles = [] := by decide
/-- StepCostIsAMultipleOfFour, with an entry that overrides the table. -/
theorem witness_StepCost : Params.sound { Params.reset with cycles := [{ key := .base 0x3C#8, taken := 8, untaken := 8 }] } ∧
    ∃ t, State.cpuStep { romAt100 0x3C#8 with
      params := { Params.reset with cycles := [{ key := .base 0x3C#8, taken := 8, untaken := 8 }] } } = .next t :=
  ⟨⟨⟨1, by decide, by decide, by decide⟩, by decide, by decide⟩, _, rfl⟩
/-- A machine with IME set and every interrupt requested. -/
def requested (enabled : Byte) : State := { machine { at0 with ime := true } with ie := enabled, iflag := 0b11111#5 }
/-- LowestPendingInterruptIsDispatched, for the first and the last source. -/
theorem witness_Dispatch :
    ((requested 0x1F#8).cpu.locked = none ∧ (requested 0x1F#8).cpu.ime = true ∧
      (requested 0x1F#8).ie.getLsbD (IntSource.vblank).index = true ∧
      (requested 0x1F#8).iflag.getLsbD (IntSource.vblank).index = true ∧
      ∀ lower < (IntSource.vblank).index, (requested 0x1F#8).ie.getLsbD lower = false ∨
        (requested 0x1F#8).iflag.getLsbD lower = false) ∧
    ((requested 0x10#8).cpu.locked = none ∧ (requested 0x10#8).cpu.ime = true ∧
      (requested 0x10#8).ie.getLsbD (IntSource.joypad).index = true ∧
      (requested 0x10#8).iflag.getLsbD (IntSource.joypad).index = true ∧
      ∀ lower < (IntSource.joypad).index, (requested 0x10#8).ie.getLsbD lower = false ∨
        (requested 0x10#8).iflag.getLsbD lower = false) := by decide

/-- EI's second step: pendingIME is set and the instruction keeps it; DI clears it. -/
def afterEi (b : Byte) : State := { romAt100 b with cpu := { Cpu.reset with pendingIme := true } }
theorem witness_Ei_promotes : Runs (afterEi 0x3C#8) ∧ (afterEi 0x3C#8).cpu.pendingIme = true ∧
    ∃ t, exec (afterEi 0x3C#8).nextInstr (afterEi 0x3C#8).wake = .next t ∧ t.cpu.pendingIme = true :=
  ⟨⟨rfl, by decide, by decide⟩, rfl, _, rfl, rfl⟩
theorem witness_Ei_cancelled : Runs (afterEi 0xF3#8) ∧
    ∃ t, exec (afterEi 0xF3#8).nextInstr (afterEi 0xF3#8).wake = .next t ∧ t.cpu.pendingIme = false :=
  ⟨⟨rfl, by decide, by decide⟩, _, rfl, rfl⟩
theorem witness_Halted : ((machine { at0 with halted := true }).cpu.locked = none ∧
    (machine { at0 with halted := true }).cpu.halted = true ∧ (machine { at0 with halted := true }).pending = 0#5) ∧
    woken.cpu.locked = none ∧ woken.cpu.halted = true ∧ woken.pending ≠ 0#5 := by decide
/-- The HALT-bug latch set in front of INC A. -/
def bugged : State := machine { at0 with haltBug := true } [(0, 0x3C#8)]
theorem witness_HaltBug : Runs bugged ∧ bugged.cpu.haltBug = true ∧ bugged.readAt .opcode bugged.cpu.pc = 0x3C#8 ∧
    bugged.cpu.ime = false ∧ bugged.cpu.pendingIme = false :=
  ⟨⟨rfl, by decide, by decide⟩, by decide, by decide, by decide, by decide⟩

/-- WritesReachTheirAddressAlone: addresses that are not touched, at the borders of the ranges that are. -/
theorem witness_untouched : touches 0x0000#16 0x9FFF#16 = false ∧ touches 0x2000#16 0x8000#16 = false ∧
    touches 0x4000#16 0x3FFF#16 = false ∧ touches 0xC000#16 0xE001#16 = false ∧ touches 0xFF44#16 0xFF45#16 = false ∧
    touches 0xFF46#16 0xFEA0#16 = false ∧ touches 0xFFFF#16 0xFFFE#16 = false := by decide
theorem witness_ramAt : ramAt State.reset 0x8000#16 = true ∧ ramAt State.reset 0x9FFF#16 = true ∧
    ramAt State.reset 0xC000#16 = true ∧ ramAt State.reset 0xFDFF#16 = true ∧ ramAt State.reset 0xFE00#16 = true ∧
    ramAt State.reset 0xFE9F#16 = true ∧ ramAt State.reset 0xFF80#16 = true ∧ ramAt State.reset 0xFFFF#16 = true ∧
    ramAt State.reset 0xFEA0#16 = false ∧ ramAt State.reset 0xA000#16 = false := by decide
/-- A machine with 32 KiB of external RAM, enabled, and BLOCKING on. -/
def gated (m : PpuMode) : State :=
  { State.reset with
    params := { Params.reset with ramBytes := 32768, blocking := true }
    mbc := { Mbc1.reset with ramEnabled := true, bank2 := 3#2, mode1 := true }
    ppu := { Ppu.reset with mode := m } }
theorem witness_extRam : ramAt (gated .hblank) 0xA000#16 = true ∧ ramAt (gated .hblank) 0xBFFF#16 = true := by decide
theorem witness_Echo : (0xE000 ≤ (0xE000#16).toNat ∧ (0xE000#16).toNat < 0xFE00) ∧
    (0xE000 ≤ (0xFDFF#16).toNat ∧ (0xFDFF#16).toNat < 0xFE00) ∧ (0xDE00 ≤ (0xDE00#16).toNat ∧ (0xDE00#16).toNat < 0xE000) ∧
    (0xDE00 ≤ (0xDFFF#16).toNat ∧ (0xDFFF#16).toNat < 0xE000) := by decide
theorem witness_BankRegisters : (0x1FFF#16).toNat < 0x2000 ∧ (0x2000 ≤ (0x2000#16).toNat ∧ (0x3FFF#16).toNat < 0x4000) ∧
    (0x6000 ≤ (0x6000#16).toNat ∧ (0x7FFF#16).toNat < 0x8000) := by decide
theorem witness_RomWindow : State.reset.mbc.sound ∧ 2 ≤ State.reset.params.romBanks ∧ (0x3FFF#16).toNat < 0x4000 ∧
    (0x4000 ≤ (0x4000#16).toNat ∧ (0x7FFF#16).toNat < 0x8000) ∧ (0x4000 ≤ (0x4000#16).toNat ∧ (0x5FFF#16).toNat < 0x6000) := by
  decide
/-- GatedMemoryReadsAsOnes, every clause: external RAM off, past its end, on; VRAM and OAM blocked and not. -/
theorem witness_Gated : State.reset.mbc.ramEnabled = false ∧ State.reset.params.ramBytes = 0 ∧
    ((gated .hblank).mbc.ramEnabled = true ∧ (gated .hblank).params.ramBytes = 32768 ∧ (gated .hblank).mbc.mode1 = true ∧
      3 * 0x2000 + ((0xBFFF#16).toNat - 0xA000) < (gated .hblank).params.ramBytes) ∧
    ((gated .pixelTransfer).params.blocking = true ∧ (gated .pixelTransfer).ppu.mode = .pixelTransfer) ∧
    ((gated .oamSearch).params.blocking = true ∧ (gated .oamSearch).ppu.mode = .oamSearch) ∧
    ¬((gated .hblank).params.blocking = true ∧ (gated .hblank).ppu.mode = .pixelTransfer) := by decide
theorem witness_Io : (0x7F < 0x80 ∧ 0x7F ∉ [0x00, 0x04, 0x0F, 0x41, 0x44]) ∧ (0x46 < 0x80 ∧ 0x46 ∉ [0x00, 0x04, 0x0F, 0x41, 0x44]) := by
  decide

/-- PpuTouchesOnlyItsOwn: two machines that differ in WRAM and in BLOCKING. -/
theorem witness_PpuTouches :
    let s := gated .oamSearch
    let s' := { State.reset with wram := [(0, 0x01#8)] }
    s.ppu = s'.ppu ∧ s.vram = s'.vram ∧ s.oam = s'.oam ∧ s.draws = s'.draws ∧ s ≠ s' :=
  ⟨rfl, rfl, rfl, rfl, fun h => by have := congrArg State.wram h; simp [gated, State.reset] at this⟩
theorem witness_VBlank :
    let p : Ppu := { Ppu.reset with ly := 143#8, modeCycles := 455, mode := .hblank, statEnable := 0b0010#4 }
    (p.ly = 143#8 ∧ p.modeCycles = 455) ∧ p.statEnable.getLsbD 1 = true ∧
      ¬(Ppu.reset.ly = 143#8 ∧ Ppu.reset.modeCycles = 455) := by decide
/-- StatRegisterAndInterruptSources: a state in which a tick raises IF bit 1, for each of its four sources. -/
theorem witness_StatSources :
    ∀ p ∈ ([{ Ppu.reset with modeCycles := 251, mode := .pixelTransfer, statEnable := 0b0001#4 },
        { Ppu.reset with modeCycles := 455, ly := 143#8, mode := .hblank, statEnable := 0b0010#4 },
        { Ppu.reset with modeCycles := 455, ly := 153#8, mode := .vblank, statEnable := 0b0100#4 },
        { Ppu.reset with modeCycles := 455, ly := 153#8, mode := .vblank, coincidence := false, statEnable := 0b1000#4 }] : List Ppu),
      (PpuBus.tick 0 [] [] { ppu := p, iflag := 0#5 }).iflag.getLsbD 1 = true := by decide
theorem witness_ModeFollows : Ppu.reset.Sound ∧ Ppu.reset.modeIsOfPosition :=
  ⟨⟨by decide, by decide, by decide, (by decide : (0 : Nat) < 80), by decide⟩, rfl⟩
theorem witness_OneFrame : Ppu.reset.ly = 0x00#8 ∧ Ppu.reset.modeCycles = 0 ∧ Ppu.reset.mode = .oamSearch := by decide
theorem witness_Rendering :
    let p : Ppu := { Ppu.reset with ly := 143#8, lcdc := 0xFC#8 }
    p.ly.toNat < 144 ∧ p.lcdc.getLsbD 0 = false ∧ p.lcdc.getLsbD 1 = false := by decide
/-- LayerPixelsComeFromTheirMaps, for the background and where the window covers the last column. -/
theorem witness_Layer : 159 < 160 ∧ Ppu.reset.lcdc.getLsbD 1 = false ∧
    (Ppu.reset.lcdc.getLsbD 5 = true → Ppu.reset.windowLine < 256) ∧
    let p : Ppu := { Ppu.reset with lcdc := 0xF1#8, wx := 166#8, windowLine := 255 }
    p.lcdc.getLsbD 1 = false ∧ (p.lcdc.getLsbD 5 = true → p.windowLine < 256) := by decide
/-- SpritesAreSelectedRankedAndMixed: in Q5 an entry wins at column 2 and none at column 0. -/
theorem witness_Sprites : q5.selectSprites q5Oam = [0, 1] ∧ q5.winningSprite 0 q5Vram q5Oam (q5.selectSprites q5Oam) 2 = some 0 ∧
    q5.winningSprite 0 q5Vram q5Oam (q5.selectSprites q5Oam) 0 = none ∧ q5.lcdc.getLsbD 1 = true ∧
    (q5.lcdc.getLsbD 5 = true → q5.windowLine < 256) := by decide
theorem witness_Sprites_left_out :
    let oam := listed 160 (List.flatten (List.replicate 11 [0x10#8, 0x08#8, 0x02#8, 0x01#8]))
    10 < 40 ∧ (oam.read .oam 40).toNat ≤ 16 ∧ 16 < (oam.read .oam 40).toNat + 8 ∧ 10 ∉ Ppu.reset.selectSprites oam := by decide
theorem witness_Timer : (0x05#8).toNat % 4 = (0xF9#8).toNat % 4 ∧ Timer.reset.tac.getLsbD 2 = false ∧
    ((0x05#8).getLsbD 2 = true ∧ Timer.reset.timaAcc = 0) := by decide
theorem witness_TimerOverflow :
    let t : Timer := { Timer.reset with tac := 0x07#8, tima := 0xFF#8, tma := 0xFF#8 }
    t.tac.getLsbD 2 = true ∧ t.timaAcc = 0 ∧ t.tima = t.tma := by decide

end Sys2Proof.Tests
end

section
/-! PROOFS. What a store leaves readable: one rule for each kind of field a write can change (20_memory.md R71, R78, R80,
R81), and from them that an address the write does not touch reads as before. -/

namespace Sys2Proof.Machine

open Sys2Proof.Claims

/-! ### The field an address names -/

/-- Outside the bank registers and the unused range, a write touches every address that names the same byte. -/
theorem touches_of_regionOf_eq {a b : Word} (hrom : 0x8000 ≤ a.toNat) (hunused : regionOf a ≠ .unused)
    (h : regionOf b = regionOf a) : touches a b = true := by
  have ha := regionOf_spec a
  have hb := regionOf_spec b
  rw [h] at hb
  unfold touches
  cases hr : regionOf a with
  | unused => exact absurd hr hunused
  | _ =>
    rw [hr] at ha hb
    dsimp only at ha hb ⊢
    split_ifs <;> simp only [decide_eq_true_eq, Bool.or_eq_true] <;> omega

/-- What a write does not touch names another byte. -/
theorem regionOf_ne_of_untouched {a b : Word} (hrom : 0x8000 ≤ a.toNat) (hunused : regionOf a ≠ .unused)
    (h : touches a b = false) : regionOf b ≠ regionOf a := fun e =>
  Bool.false_ne_true (h.symm.trans (touches_of_regionOf_eq hrom hunused e))

/-- The offset from 0xFF00 a register stands at (R45). -/
def IoReg.offset : IoReg → Nat
  | .joyp => 0x00
  | .sb => 0x01
  | .sc => 0x02
  | .div => 0x04
  | .tima => 0x05
  | .tma => 0x06
  | .tac => 0x07
  | .iflag => 0x0F
  | .lcdc => 0x40
  | .stat => 0x41
  | .scy => 0x42
  | .scx => 0x43
  | .ly => 0x44
  | .lyc => 0x45
  | .dma => 0x46
  | .bgp => 0x47
  | .obp0 => 0x48
  | .obp1 => 0x49
  | .wy => 0x4A
  | .wx => 0x4B
  | .backing off => off

@[simp] theorem ioRegOf_offset (n : Nat) : (ioRegOf n).offset = n := by
  rcases ioRegOf_cases n with
    ⟨h, rfl⟩ | ⟨h, rfl⟩ | ⟨h, rfl⟩ | ⟨h, rfl⟩ | ⟨h, rfl⟩ | ⟨h, rfl⟩ | ⟨h, rfl⟩ |
    ⟨h, rfl⟩ | ⟨h, rfl⟩ | ⟨h, rfl⟩ | ⟨h, rfl⟩ | ⟨h, rfl⟩ | ⟨h, rfl⟩ | ⟨h, rfl⟩ |
    ⟨h, rfl⟩ | ⟨h, rfl⟩ | ⟨h, rfl⟩ | ⟨h, rfl⟩ | ⟨h, rfl⟩ | ⟨h, rfl⟩ | h
  all_goals rw [h, IoReg.offset]

/-- The offset of a register found at an offset. -/
theorem offset_of_ioRegOf_eq {n : Nat} {r : IoReg} (h : ioRegOf n = r) : n = r.offset := by
  rw [← h, ioRegOf_offset]

/-! ### One rule for each field -/

variable (s : State) (site : ReadSite) (b : Word) (o : Nat) (v : Byte)

theorem State.readAt_vram_write (h : regionOf b ≠ .vram o) :
    State.readAt site { s with vram := s.vram.write o v } b = s.readAt site b := by
  unfold State.readAt State.mmuRead
  cases hb : regionOf b with
  | vram off => dsimp only; rw [Ram.read_write_ne _ _ _ _ _ fun e : off = o => h (e ▸ hb)]
  | _ => rfl

theorem State.readAt_wram_write (h : regionOf b ≠ .wram o) :
    State.readAt site { s with wram := s.wram.write o v } b = s.readAt site b := by
  unfold State.readAt State.mmuRead
  cases hb : regionOf b with
  | wram off => exact Ram.read_write_ne _ _ _ _ _ fun e : off = o => h (e ▸ hb)
  | _ => rfl

theorem State.readAt_hram_write (h : regionOf b ≠ .hram o) :
    State.readAt site { s with hram := s.hram.write o v } b = s.readAt site b := by
  unfold State.readAt State.mmuRead
  cases hb : regionOf b with
  | hram off => exact Ram.read_write_ne _ _ _ _ _ fun e : off = o => h (e ▸ hb)
  | _ => rfl

/-- OAM is read at its own addresses only. -/
theorem State.readAt_oam (m : Ram) (h : ∀ off, regionOf b = .oam off → m.read .oam off = s.oam.read .oam off) :
    State.readAt site { s with oam := m } b = s.readAt site b := by
  unfold State.readAt State.mmuRead
  cases hb : regionOf b with
  | oam off => dsimp only; rw [h off hb]
  | _ => rfl

/-- The external RAM byte behind an offset is behind no other. -/
theorem State.extRamOffset_inj {s : State} {off off' n : Nat} (h : s.extRamOffset off = some n)
    (h' : s.extRamOffset off' = some n) : off = off' := by
  unfold State.extRamOffset at h h'
  dsimp only at h h'
  split at h <;> split at h' <;> simp_all only [Option.some.injEq, reduceCtorEq]
  omega

theorem State.readAt_extRam_write {off n : Nat} (hn : s.extRamOffset off = some n) (h : regionOf b ≠ .extRam off) :
    State.readAt site { s with extRam := s.extRam.write n v } b = s.readAt site b := by
  unfold State.readAt State.mmuRead
  cases hb : regionOf b with
  | extRam off' =>
    have hsame : State.extRamOffset { s with extRam := s.extRam.write n v } off' = s.extRamOffset off' := rfl
    dsimp only
    rw [hsame]
    cases hm : s.extRamOffset off' with
    | none => rfl
    | some m => exact Memory.read_write_ne _ _ _ _ fun e => h (by rw [hb, State.extRamOffset_inj hn (e ▸ hm)])
  | _ => rfl

/-- The bank registers are seen through the windows they switch only. -/
theorem State.readAt_mbc (m : Mbc1)
    (hrom : ∀ off, regionOf b = .romBanked off → State.effRomBank { s with mbc := m } = s.effRomBank)
    (hram : ∀ off, regionOf b = .extRam off → State.extRamOffset { s with mbc := m } off = s.extRamOffset off) :
    State.readAt site { s with mbc := m } b = s.readAt site b := by
  unfold State.readAt State.mmuRead
  cases hb : regionOf b with
  | romBanked off => dsimp only; rw [hrom off hb]
  | extRam off => dsimp only; rw [hram off hb]
  | _ => rfl

theorem State.readAt_ie (h : regionOf b ≠ .ie) : State.readAt site { s with ie := v } b = s.readAt site b := by
  unfold State.readAt State.mmuRead
  cases hb : regionOf b with
  | ie => exact absurd hb h
  | _ => rfl

/-! ### The I/O registers -/

/-- An I/O write leaves the mode of the PPU, on which blocking turns. -/
@[simp] theorem State.ioWrite_ppu_mode (r : IoReg) : (s.ioWrite r v).ppu.mode = s.ppu.mode := by
  cases r with
  | dma =>
    obtain ⟨m, hm⟩ := s.dmaWrite_eq v
    exact congrArg (·.ppu.mode) hm
  | _ => rfl

/-- Only the DMA register's write reaches OAM. -/
theorem State.ioWrite_oam {r : IoReg} (h : r ≠ .dma) : (s.ioWrite r v).oam = s.oam := by
  cases r with
  | dma => exact absurd rfl h
  | _ => rfl

/-- A write of one register leaves what the others read as, but for STAT and IF, which LY and LYC can set bits of (R140,
R466). -/
theorem State.ioRead_ioWrite_ne {r q : IoReg} (hne : q ≠ r) (hly : r = .ly ∨ r = .lyc → q ≠ .stat ∧ q ≠ .iflag) :
    (s.ioWrite r v).ioRead q = s.ioRead q := by
  cases r with
  | ly | lyc =>
    obtain ⟨hstat, hif⟩ := hly (by simp)
    cases q <;> first | rfl | exact absurd rfl hne | exact absurd rfl hstat | exact absurd rfl hif
  | dma =>
    obtain ⟨m, hm⟩ := s.dmaWrite_eq v
    show (s.dmaWrite v).ioRead q = s.ioRead q
    rw [hm]
    cases q <;> first | rfl | exact absurd rfl hne
  | backing off =>
    cases q with
    | backing off' => exact Ram.read_write_ne _ _ _ _ _ fun e => hne (e ▸ rfl)
    | _ => rfl
  | _ => cases q <;> first | rfl | exact absurd rfl hne

/-- An I/O write is seen through the I/O registers, and through OAM if it starts a DMA. -/
theorem State.readAt_ioWrite (r : IoReg)
    (hio : ∀ off, regionOf b = .io off → (s.ioWrite r v).ioRead (ioRegOf off) = s.ioRead (ioRegOf off))
    (hoam : r = .dma → ∀ off, regionOf b ≠ .oam off) :
    (s.ioWrite r v).readAt site b = s.readAt site b := by
  have hmode := s.ioWrite_ppu_mode v r
  have hoam' := fun h => s.ioWrite_oam (r := r) v h
  obtain ⟨_, oam, _, _, _, _, ppu, ht⟩ := s.ioWrite_eq r v
  rw [ht] at hio hmode hoam' ⊢
  unfold State.readAt State.mmuRead
  cases hb : regionOf b with
  | vram off => dsimp only at hmode ⊢; rw [hmode]
  | oam off =>
    dsimp only at hmode hoam' ⊢
    rw [hmode, hoam' fun e => hoam e off hb]
  | io off => exact hio off hb
  | _ => rfl

/-! ### The bank registers -/

/-- A write below 0x4000 is seen through the window of the register it writes. -/
theorem State.readAt_bankWriteLow (hram : o < 0x2000 → ∀ off, regionOf b ≠ .extRam off)
    (hrom : 0x2000 ≤ o → ∀ off, regionOf b ≠ .romBanked off) :
    (s.bankWriteLow o v).readAt site b = s.readAt site b := by
  unfold State.bankWriteLow
  split
  · next h => exact s.readAt_mbc site b _ (fun _ _ => rfl) fun off hb => absurd hb (hram h off)
  · next h => exact s.readAt_mbc site b _ (fun off hb => absurd hb (hrom (by omega) off)) fun _ _ => rfl

/-- A write of the upper bits or of the mode is seen through the two switched windows. -/
theorem State.readAt_bankWriteHigh (hrom : ∀ off, regionOf b ≠ .romBanked off) (hram : ∀ off, regionOf b ≠ .extRam off) :
    (s.bankWriteHigh o v).readAt site b = s.readAt site b := by
  unfold State.bankWriteHigh
  split <;> exact s.readAt_mbc site b _ (fun off hb => absurd hb (hrom off)) fun off hb => absurd hb (hram off)

/-! ### The write -/

/-- A write to ROM that does not touch `b` switches no window `b` lies in. -/
theorem window_of_untouched {a b : Word} (ha : a.toNat < 0x8000) (h : touches a b = false) :
    (a.toNat < 0x2000 ∨ 0x4000 ≤ a.toNat → ∀ off, regionOf b ≠ .extRam off) ∧
      (0x2000 ≤ a.toNat → ∀ off, regionOf b ≠ .romBanked off) := by
  unfold touches at h
  dsimp only at h
  constructor
  · intro hw off hb
    have := regionOf_extRam hb
    split_ifs at h <;> simp only [decide_eq_false_iff_not, Bool.or_eq_false_iff] at h <;> omega
  · intro hw off hb
    have := regionOf_romBanked hb
    split_ifs at h <;> simp only [decide_eq_false_iff_not, Bool.or_eq_false_iff] at h <;> omega

/-- Two I/O registers of which one is not touched by the other's write: they differ, and if LY or LYC is written the other
is neither STAT nor IF. -/
theorem ioReg_of_untouched {a b : Word} {off off' : Nat} (ha : regionOf a = .io off) (hb : regionOf b = .io off')
    (h : touches a b = false) :
    ioRegOf off' ≠ ioRegOf off ∧
      (ioRegOf off = .ly ∨ ioRegOf off = .lyc → ioRegOf off' ≠ .stat ∧ ioRegOf off' ≠ .iflag) := by
  have hat := regionOf_io ha
  have hbt := regionOf_io hb
  refine ⟨fun e => ?_, fun hly => ?_⟩
  · have he : off' = off := by simpa using congrArg IoReg.offset e
    exact regionOf_ne_of_untouched (by omega) (by simp [ha]) h (by rw [ha, hb, he])
  · unfold touches at h
    dsimp only at h
    have hoff : off = 0x44 ∨ off = 0x45 := hly.imp offset_of_ioRegOf_eq offset_of_ioRegOf_eq
    have hn : a.toNat = 0xFF44 ∨ a.toNat = 0xFF45 := by omega
    rw [if_neg (by omega), if_neg (by omega), if_neg (by omega), if_neg (by omega), if_pos hn,
      decide_eq_false_iff_not] at h
    constructor <;> intro e <;> have he := offset_of_ioRegOf_eq e <;> dsimp only [IoReg.offset] at he <;> omega

/-- A write of the DMA register that does not touch `b`: `b` is not in OAM. -/
theorem not_oam_of_untouched {a b : Word} {off : Nat} (ha : regionOf a = .io off) (hdma : ioRegOf off = .dma)
    (h : touches a b = false) (off' : Nat) : regionOf b ≠ .oam off' := by
  intro hb
  have hat := regionOf_io ha
  have hbt := regionOf_oam hb
  have hoff : off = 0x46 := offset_of_ioRegOf_eq hdma
  unfold touches at h
  dsimp only at h
  rw [if_neg (by omega), if_neg (by omega), if_neg (by omega), if_neg (by omega), if_neg (by omega),
    if_pos (by omega), decide_eq_false_iff_not] at h
  omega

/-- AN ADDRESS A WRITE DOES NOT TOUCH READS AS BEFORE (R71, R78, R81). -/
theorem State.readAt_write_of_untouched {a b : Word} (h : touches a b = false) (s : State) (v : Byte) (site : ReadSite) :
    (s.write a v).readAt site b = s.readAt site b := by
  have other : 0x8000 ≤ a.toNat → regionOf a ≠ .unused → regionOf b ≠ regionOf a := fun hrom hunused =>
    regionOf_ne_of_untouched hrom hunused h
  unfold State.write
  cases ha : regionOf a with
  | romFixed off =>
    obtain ⟨hlt, rfl⟩ := regionOf_romFixed ha
    obtain ⟨hram, hrom⟩ := window_of_untouched (by omega) h
    exact s.readAt_bankWriteLow site b _ v (fun h => hram (.inl h)) hrom
  | romBanked off =>
    obtain ⟨hge, hlt, -⟩ := regionOf_romBanked ha
    obtain ⟨hram, hrom⟩ := window_of_untouched hlt h
    exact s.readAt_bankWriteHigh site b off v (hrom (by omega)) (hram (.inr hge))
  | vram off =>
    dsimp only
    split
    · rfl
    · exact s.readAt_vram_write site b off v (ha ▸ other (regionOf_vram ha).1 (by simp [ha]))
  | extRam off =>
    have hb := ha ▸ other (by have := regionOf_extRam ha; omega) (by simp [ha])
    dsimp only
    split
    · next n hn => exact s.readAt_extRam_write site b v hn hb
    · rfl
  | wram off =>
    exact s.readAt_wram_write site b off v (ha ▸ other (by have := regionOf_wram ha; omega) (by simp [ha]))
  | oam off =>
    have hb := ha ▸ other (by have := regionOf_oam ha; omega) (by simp [ha])
    dsimp only
    split
    · rfl
    · exact s.readAt_oam site b _ fun off' hb' => Ram.read_write_ne _ _ _ _ _ fun e => hb (e ▸ hb')
  | unused => rfl
  | io off =>
    refine s.readAt_ioWrite site b v _ (fun off' hb => ?_) fun hdma => not_oam_of_untouched ha hdma h
    obtain ⟨hne, hly⟩ := ioReg_of_untouched ha hb h
    exact s.ioRead_ioWrite_ne v hne hly
  | hram off =>
    exact s.readAt_hram_write site b off v (ha ▸ other (by have := regionOf_hram ha; omega) (by simp [ha]))
  | ie => exact s.readAt_ie site b v (ha ▸ other (by have := regionOf_ie ha; omega) (by simp [ha]))

end Sys2Proof.Machine
end

section
/-! PROOFS. The stack and the frames of the claims: pairs written and read back, a push as seen outside the CPU, and how a
claim's frame follows from the shape of the state an instruction leaves. -/

namespace Sys2Proof.Machine

/-! ### Words, bytes and the pairs `rp2` -/

/-- A word is its two halves. -/
@[simp] theorem wordOf_hiByte_loByte (w : Word) : wordOf (hiByte w) (loByte w) = w :=
  Laws.RoundTrip.wordOf_bytes w

/-- A word with the low nibble of its low half gone. -/
theorem wordOf_hiByte_loByte_masked (w : Word) : wordOf (hiByte w) (loByte w &&& 0xF0#8) = w &&& 0xFFF0#16 := by
  calc wordOf (hiByte w) (loByte w &&& 0xF0#8)
      = (hiByte w &&& BitVec.allOnes 8) ++ (loByte w &&& 0xF0#8) := by rw [BitVec.and_allOnes]; rfl
    _ = wordOf (hiByte w) (loByte w) &&& (BitVec.allOnes 8 ++ 0xF0#8) := BitVec.and_append.symm
    _ = w &&& 0xFFF0#16 := by rw [wordOf_hiByte_loByte]; rfl

variable (s : State)

/-- A pair of `rp2` written holds the word; AF loses F's low nibble (R22). -/
theorem State.stackPair_setStackPair_self (p : StackPair) (w : Word) :
    (s.setStackPair p w).stackPair p = if p = .af then w &&& 0xFFF0#16 else w := by
  cases p with
  | af => exact wordOf_hiByte_loByte_masked w
  | _ => exact wordOf_hiByte_loByte w

/-- Writing a pair of `rp2` leaves the others. -/
theorem State.stackPair_setStackPair_ne {p q : StackPair} (w : Word) (h : q ≠ p) :
    (s.setStackPair p w).stackPair q = s.stackPair q := by
  cases p <;> cases q <;> first | rfl | exact absurd rfl h

/-- Writing a pair of `rp2` changes only the CPU, and there neither SP, PC nor a hidden bit. -/
theorem State.setStackPair_eq (p : StackPair) (w : Word) :
    ∃ c : Cpu, s.setStackPair p w = { s with cpu := c } ∧ c.sp = s.cpu.sp ∧ c.pc = s.cpu.pc ∧ c.ime = s.cpu.ime ∧
      c.pendingIme = s.cpu.pendingIme ∧ c.halted = s.cpu.halted ∧ c.haltBug = s.cpu.haltBug ∧ c.locked = s.cpu.locked := by
  cases p <;> exact ⟨_, rfl, rfl, rfl, rfl, rfl, rfl, rfl, rfl⟩

/-! ### Two writes after a change of the CPU -/

/-- A push sees nothing of the CPU but SP. -/
theorem State.push16_of_cpu (c : Cpu) (w : Word) :
    State.push16 { s with cpu := c } w =
      { (s.write (c.sp - 1#16) (hiByte w)).write (c.sp - 2#16) (loByte w) with cpu := { c with sp := c.sp - 2#16 } } := by
  rw [State.push16_eq, s.write_of_cpu (c.sp - 1#16) (hiByte w) c, State.write_of_cpu _ (c.sp - 2#16) (loByte w) c]
  rfl

/-- A word's write sees nothing of the CPU. -/
theorem State.writeWord_of_cpu (c : Cpu) (a w : Word) :
    State.writeWord { s with cpu := c } a w =
      { (s.write a (loByte w)).write (a + 1#16) (hiByte w) with cpu := c } := by
  unfold State.writeWord
  rw [s.write_of_cpu a (loByte w) c, State.write_of_cpu]

theorem State.push16_fetched (n : Nat) (w : Word) :
    (s.fetched n).push16 w =
      { (s.write (s.cpu.sp - 1#16) (hiByte w)).write (s.cpu.sp - 2#16) (loByte w) with
        cpu := { (s.fetched n).cpu with sp := s.cpu.sp - 2#16 } } := s.push16_of_cpu (s.fetched n).cpu w

theorem State.writeWord_fetched (n : Nat) (a w : Word) :
    (s.fetched n).writeWord a w =
      { (s.write a (loByte w)).write (a + 1#16) (hiByte w) with cpu := (s.fetched n).cpu } :=
  s.writeWord_of_cpu (s.fetched n).cpu a w

end Sys2Proof.Machine

namespace Sys2Proof.Claims

open Sys2Proof.Machine

/-! ### Frames -/

section
variable {s t : State}

/-- PC after the fetches is the PC of the claims (R12). -/
theorem fetched_pc (s : State) (len : Nat) : (s.fetched len).cpu.pc = pcAfter s len := by
  unfold pcAfter
  rw [State.fetched_cpu_pc]
  split <;> rfl

/-- A state that differs in the CPU and the cost has nothing stored. -/
theorem nothingStored_of_sameOutsideCpu (h : s.sameOutsideCpu t) : NothingStored s t :=
  ⟨h, State.readAt_of_sameOutsideCpu h⟩

/-- What differs from one write in the CPU and the cost has that write as its one effect. -/
theorem stores_of_sameOutsideCpu {a : Word} {v : Byte} (h : (s.write a v).sameOutsideCpu t) : Stores s t a v :=
  ⟨h, fun site b hb => by rw [State.readAt_of_sameOutsideCpu h, State.readAt_write_of_untouched hb]⟩

/-- What differs from two writes in the CPU and the cost has those writes as its one effect. -/
theorem storesTwo_of_sameOutsideCpu {a a' : Word} {v v' : Byte} (h : ((s.write a v).write a' v').sameOutsideCpu t) :
    StoresTwo s t a v a' v' :=
  ⟨h, fun site b hb hb' => by
    rw [State.readAt_of_sameOutsideCpu h, State.readAt_write_of_untouched hb',
      State.readAt_write_of_untouched hb]⟩

/-- The CPU of an instruction that has fetched its bytes and moved SP at most: the frame of a store. -/
theorem storeFrame_of_cpu {len : Nat} {w : Word} (h : t.cpu = { (s.fetched len).cpu with sp := w }) :
    StoreFrame len [] s t where
  regs r _ := by unfold State.reg; rw [h]; rfl
  f := by rw [h]; rfl
  pc := by rw [h]; exact fetched_pc s len
  hidden := by constructor <;> rw [h] <;> rfl

end

/-! ### PUSH, LD (nn),SP and POP -/

/-- PUSH (R233). -/
theorem exec_push_spec (p : StackPair) (s : State) :
    ∃ t, exec (.push p) s = .next t ∧ Pushes s t (s.stackPair p) ∧ t.cpu.sp = s.cpu.sp - 2#16 ∧ StoreFrame 1 [] s t := by
  have run := exec_push s p
  rw [pushPair, State.push16_fetched, State.finish_eq] at run
  exact ⟨_, run, storesTwo_of_sameOutsideCpu rfl, rfl, storeFrame_of_cpu rfl⟩

/-- LD (nn),SP (R231). -/
theorem exec_ld_atN16_sp_spec (nn : Word) (s : State) :
    ∃ t, exec (.ld_atN16_sp nn) s = .next t ∧ StoresTwo s t nn (loByte s.cpu.sp) (nn + 1#16) (hiByte s.cpu.sp) ∧
      t.cpu.sp = s.cpu.sp ∧ StoreFrame 3 [] s t := by
  have run : exec (.ld_atN16_sp nn) s = storeSpAbs (.base 0x08#8) nn s := rfl
  rw [storeSpAbs, State.writeWord_fetched, State.finish_eq] at run
  exact ⟨_, run, storesTwo_of_sameOutsideCpu rfl, rfl, storeFrame_of_cpu rfl⟩

/-- POP (R234). -/
theorem exec_pop_spec (p : StackPair) (s : State) :
    ∃ t, exec (.pop p) s = .next t ∧
      t.stackPair p = (if p = .af then poppedWord s &&& 0xFFF0#16 else poppedWord s) ∧
      (∀ q : StackPair, q ≠ p → t.stackPair q = s.stackPair q) ∧ t.cpu.sp = s.cpu.sp + 2#16 ∧ t.cpu.pc = pcAfter s 1 ∧
      HiddenKept s t ∧ NothingStored s t := by
  have run := exec_pop s p
  rw [popPair, State.finish_eq] at run
  have self := (s.fetched 1).popped.stackPair_setStackPair_self p s.popValue
  have others := fun q => (s.fetched 1).popped.stackPair_setStackPair_ne (p := p) (q := q) s.popValue
  obtain ⟨c, hc, hsp, hpc, hime, hpending, hhalted, hbug, hlocked⟩ := (s.fetched 1).popped.setStackPair_eq p s.popValue
  rw [hc] at run self others
  exact ⟨_, run, self, others, hsp, hpc.trans (fetched_pc s 1), ⟨hime, hpending, hhalted, hlocked, hbug⟩,
    nothingStored_of_sameOutsideCpu rfl⟩

/-- Settles O15: the three families one by one, each from the shape of the state its shared operation leaves. -/
theorem stackMoves : Obligations.StackMoves := fun s =>
  ⟨fun p => exec_push_spec p s, fun nn => exec_ld_atN16_sp_spec nn s, fun p => exec_pop_spec p s⟩

end Sys2Proof.Claims
end

section
/-! PROOFS. The system step (00_scope.md R16): what the devices' advance leaves in each field, and the step as the CPU step
followed by it. -/

namespace Sys2Proof.Machine

variable (s : State)

/-- The devices' advance as one update: the PPU runs first, the Timer sees the IF it leaves (R16, D32). -/
theorem State.advanceDevices_eq :
    s.advanceDevices =
      let p := PpuBus.run s.draws s.vram s.oam s.cost s.ppuBus
      let t := TimerBus.run s.cost { timer := s.timer, iflag := p.iflag }
      { s with ppu := p.ppu, timer := t.timer, iflag := t.iflag, draws := s.draws + 1 } := rfl

/-- Where the CPU step after the host's turn completes, the system step is that and the devices' advance (R16). -/
theorem step_of_cpuStep_next {s t : State} (h : s.hostTurn.cpuStep = .next t) : step s = .next t.advanceDevices := by
  unfold step State.systemStep
  rw [h]

end Sys2Proof.Machine

namespace Sys2Proof.Claims

open Sys2Proof.Machine

/-- Settles O5: the step ends in the devices' advance, whose fields the claim names. -/
theorem systemStepAdvancesTheDevices : Obligations.SystemStepAdvancesTheDevices := by
  intro s t h
  refine ⟨_, step_of_cpuStep_next h, ?_⟩
  rw [State.advanceDevices_eq]
  exact ⟨rfl, rfl, rfl, rfl, rfl, rfl⟩

end Sys2Proof.Claims
end

section
/-! PROOFS. Every instruction runs one of the shared operations: a fact about all of them is a case split over these. -/

namespace Sys2Proof.Machine

/-- The shared operations that `exec` calls, each run on `s`. PREFIX CB has none of its own: it runs the row of its second
byte (R305). -/
inductive SharedOp (s : State) : Result → Prop where
  | loadRegReg (k : OpKey) (dst r : Reg8) : SharedOp s (loadRegReg k dst r s)
  | loadRegImm (k : OpKey) (dst : Reg8) (n : Byte) : SharedOp s (loadRegImm k dst n s)
  | loadRegMem (k : OpKey) (dst : Reg8) : SharedOp s (loadRegMem k dst s)
  | storeMemReg (k : OpKey) (r : Reg8) : SharedOp s (storeMemReg k r s)
  | loadMemImm (k : OpKey) (n : Byte) : SharedOp s (loadMemImm k n s)
  | loadAAtPair (k : OpKey) (p : RegPair) : SharedOp s (loadAAtPair k p s)
  | storeAAtPair (k : OpKey) (p : RegPair) : SharedOp s (storeAAtPair k p s)
  | loadAAbs (k : OpKey) (nn : Word) : SharedOp s (loadAAbs k nn s)
  | storeAAbs (k : OpKey) (nn : Word) : SharedOp s (storeAAbs k nn s)
  | loadAHighC (k : OpKey) : SharedOp s (loadAHighC k s)
  | storeAHighC (k : OpKey) : SharedOp s (storeAHighC k s)
  | loadAHigh (k : OpKey) (n : Byte) : SharedOp s (loadAHigh k n s)
  | storeAHigh (k : OpKey) (n : Byte) : SharedOp s (storeAHigh k n s)
  | storeAAtHLStep (k : OpKey) (delta : Word) : SharedOp s (storeAAtHLStep k delta s)
  | loadAAtHLStep (k : OpKey) (delta : Word) : SharedOp s (loadAAtHLStep k delta s)
  | loadPairImm (k : OpKey) (p : RegPair) (nn : Word) : SharedOp s (loadPairImm k p nn s)
  | storeSpAbs (k : OpKey) (nn : Word) : SharedOp s (storeSpAbs k nn s)
  | loadSpHl (k : OpKey) : SharedOp s (loadSpHl k s)
  | pushPair (k : OpKey) (p : StackPair) : SharedOp s (pushPair k p s)
  | popPair (k : OpKey) (p : StackPair) : SharedOp s (popPair k p s)
  | loadHlSpOffset (k : OpKey) (e : Byte) : SharedOp s (loadHlSpOffset k e s)
  | aluReg (k : OpKey) (op : AluOp) (r : Reg8) : SharedOp s (aluReg k op r s)
  | aluMem (k : OpKey) (op : AluOp) : SharedOp s (aluMem k op s)
  | aluImm (k : OpKey) (op : AluOp) (n : Byte) : SharedOp s (aluImm k op n s)
  | incReg (k : OpKey) (r : Reg8) : SharedOp s (incReg k r s)
  | incMem (k : OpKey) : SharedOp s (incMem k s)
  | decReg (k : OpKey) (r : Reg8) : SharedOp s (decReg k r s)
  | decMem (k : OpKey) : SharedOp s (decMem k s)
  | daaOp (k : OpKey) : SharedOp s (daaOp k s)
  | cplOp (k : OpKey) : SharedOp s (cplOp k s)
  | scfOp (k : OpKey) : SharedOp s (scfOp k s)
  | ccfOp (k : OpKey) : SharedOp s (ccfOp k s)
  | addHlPair (k : OpKey) (p : RegPair) : SharedOp s (addHlPair k p s)
  | incPair (k : OpKey) (p : RegPair) : SharedOp s (incPair k p s)
  | decPair (k : OpKey) (p : RegPair) : SharedOp s (decPair k p s)
  | addSpOffset (k : OpKey) (e : Byte) : SharedOp s (addSpOffset k e s)
  | rotA (k : OpKey) (kind : RotKind) : SharedOp s (rotA k kind s)
  | rotTarget (k : OpKey) (kind : RotKind) (t : Target8) : SharedOp s (rotTarget k kind t s)
  | bitTarget (k : OpKey) (b : Fin 8) (t : Target8) : SharedOp s (bitTarget k b t s)
  | resTarget (k : OpKey) (b : Fin 8) (t : Target8) : SharedOp s (resTarget k b t s)
  | setTarget (k : OpKey) (b : Fin 8) (t : Target8) : SharedOp s (setTarget k b t s)
  | jumpAbs (k : OpKey) (nn : Word) : SharedOp s (jumpAbs k nn s)
  | jumpAbsCond (k : OpKey) (cc : Cond) (nn : Word) : SharedOp s (jumpAbsCond k cc nn s)
  | jumpHl (k : OpKey) : SharedOp s (jumpHl k s)
  | jumpRel (k : OpKey) (e : Byte) : SharedOp s (jumpRel k e s)
  | jumpRelCond (k : OpKey) (cc : Cond) (e : Byte) : SharedOp s (jumpRelCond k cc e s)
  | callAbs (k : OpKey) (nn : Word) : SharedOp s (callAbs k nn s)
  | callCond (k : OpKey) (cc : Cond) (nn : Word) : SharedOp s (callCond k cc nn s)
  | returnOp (k : OpKey) : SharedOp s (returnOp k s)
  | returnCond (k : OpKey) (cc : Cond) : SharedOp s (returnCond k cc s)
  | retiOp (k : OpKey) : SharedOp s (retiOp k s)
  | restart (k : OpKey) (t : Fin 8) : SharedOp s (restart k t s)
  | nopOp (k : OpKey) : SharedOp s (nopOp k s)
  | haltOp (k : OpKey) : SharedOp s (haltOp k s)
  | stopOp (k : OpKey) : SharedOp s (stopOp k s)
  | diOp (k : OpKey) : SharedOp s (diOp k s)
  | eiOp (k : OpKey) : SharedOp s (eiOp k s)
  | illegalOp (byte : Byte) : SharedOp s (illegalOp byte s)

/-- PREFIX CB runs the operation of the row its second byte selects (R305). -/
theorem prefixOp_sharedOp (op2 : Byte) (s : State) : SharedOp s (prefixOp op2 s) := by
  unfold prefixOp
  split
  · exact .rotTarget _ _ _
  · exact .bitTarget _ _ _
  · exact .resTarget _ _ _
  · exact .setTarget _ _ _

/-- EVERY INSTRUCTION RUNS A SHARED OPERATION (R400), row by row. -/
theorem exec_sharedOp (i : Instr) (s : State) : SharedOp s (exec i s) := by
  cases i with
  | ld_b_b | ld_b_c | ld_b_d | ld_b_e | ld_b_h | ld_b_l | ld_b_a | ld_c_b | ld_c_c | ld_c_d | ld_c_e | ld_c_h
  | ld_c_l | ld_c_a | ld_d_b | ld_d_c | ld_d_d | ld_d_e | ld_d_h | ld_d_l | ld_d_a | ld_e_b | ld_e_c | ld_e_d
  | ld_e_e | ld_e_h | ld_e_l | ld_e_a | ld_h_b | ld_h_c | ld_h_d | ld_h_e | ld_h_h | ld_h_l | ld_h_a | ld_l_b
  | ld_l_c | ld_l_d | ld_l_e | ld_l_h | ld_l_l | ld_l_a | ld_a_b | ld_a_c | ld_a_d | ld_a_e | ld_a_h | ld_a_l
  | ld_a_a =>
    exact .loadRegReg _ _ _
  | ld_b_n8 | ld_c_n8 | ld_d_n8 | ld_e_n8 | ld_h_n8 | ld_l_n8 | ld_a_n8 => exact .loadRegImm _ _ _
  | ld_b_atHL | ld_c_atHL | ld_d_atHL | ld_e_atHL | ld_h_atHL | ld_l_atHL | ld_a_atHL => exact .loadRegMem _ _
  | ld_atHL_b | ld_atHL_c | ld_atHL_d | ld_atHL_e | ld_atHL_h | ld_atHL_l | ld_atHL_a => exact .storeMemReg _ _
  | ld_atHL_n8 => exact .loadMemImm _ _
  | ld_a_atBC | ld_a_atDE => exact .loadAAtPair _ _
  | ld_atBC_a | ld_atDE_a => exact .storeAAtPair _ _
  | ld_a_atN16 => exact .loadAAbs _ _
  | ld_atN16_a => exact .storeAAbs _ _
  | ldh_a_atC => exact .loadAHighC _
  | ldh_atC_a => exact .storeAHighC _
  | ldh_a_atN8 => exact .loadAHigh _ _
  | ldh_atN8_a => exact .storeAHigh _ _
  | ld_atHLI_a | ld_atHLD_a => exact .storeAAtHLStep _ _
  | ld_a_atHLI | ld_a_atHLD => exact .loadAAtHLStep _ _
  | ld_bc_n16 | ld_de_n16 | ld_hl_n16 | ld_sp_n16 => exact .loadPairImm _ _ _
  | ld_atN16_sp => exact .storeSpAbs _ _
  | ld_sp_hl => exact .loadSpHl _
  | push_bc | push_de | push_hl | push_af => exact .pushPair _ _
  | pop_bc | pop_de | pop_hl | pop_af => exact .popPair _ _
  | ld_hl_spE8 => exact .loadHlSpOffset _ _
  | add_a_b | add_a_c | add_a_d | add_a_e | add_a_h | add_a_l | add_a_a | adc_a_b | adc_a_c | adc_a_d | adc_a_e
  | adc_a_h | adc_a_l | adc_a_a | sub_b | sub_c | sub_d | sub_e | sub_h | sub_l | sub_a | sbc_a_b | sbc_a_c
  | sbc_a_d | sbc_a_e | sbc_a_h | sbc_a_l | sbc_a_a | and_b | and_c | and_d | and_e | and_h | and_l | and_a
  | xor_b | xor_c | xor_d | xor_e | xor_h | xor_l | xor_a | or_b | or_c | or_d | or_e | or_h | or_l | or_a | cp_b
  | cp_c | cp_d | cp_e | cp_h | cp_l | cp_a =>
    exact .aluReg _ _ _
  | add_a_atHL | adc_a_atHL | sub_atHL | sbc_a_atHL | and_atHL | xor_atHL | or_atHL | cp_atHL =>
    exact .aluMem _ _
  | add_a_n8 | adc_a_n8 | sub_n8 | sbc_a_n8 | and_n8 | xor_n8 | or_n8 | cp_n8 => exact .aluImm _ _ _
  | inc_b | inc_c | inc_d | inc_e | inc_h | inc_l | inc_a => exact .incReg _ _
  | inc_atHL => exact .incMem _
  | dec_b | dec_c | dec_d | dec_e | dec_h | dec_l | dec_a => exact .decReg _ _
  | dec_atHL => exact .decMem _
  | daa => exact .daaOp _
  | cpl => exact .cplOp _
  | scf => exact .scfOp _
  | ccf => exact .ccfOp _
  | add_hl_bc | add_hl_de | add_hl_hl | add_hl_sp => exact .addHlPair _ _
  | inc_bc | inc_de | inc_hl | inc_sp => exact .incPair _ _
  | dec_bc | dec_de | dec_hl | dec_sp => exact .decPair _ _
  | add_sp_e8 => exact .addSpOffset _ _
  | rlca | rrca | rla | rra => exact .rotA _ _
  | rlc_b | rrc_b | rl_b | rr_b | sla_b | sra_b | swap_b | srl_b => exact .rotTarget _ _ (.reg .b)
  | rlc_c | rrc_c | rl_c | rr_c | sla_c | sra_c | swap_c | srl_c => exact .rotTarget _ _ (.reg .c)
  | rlc_d | rrc_d | rl_d | rr_d | sla_d | sra_d | swap_d | srl_d => exact .rotTarget _ _ (.reg .d)
  | rlc_e | rrc_e | rl_e | rr_e | sla_e | sra_e | swap_e | srl_e => exact .rotTarget _ _ (.reg .e)
  | rlc_h | rrc_h | rl_h | rr_h | sla_h | sra_h | swap_h | srl_h => exact .rotTarget _ _ (.reg .h)
  | rlc_l | rrc_l | rl_l | rr_l | sla_l | sra_l | swap_l | srl_l => exact .rotTarget _ _ (.reg .l)
  | rlc_a | rrc_a | rl_a | rr_a | sla_a | sra_a | swap_a | srl_a => exact .rotTarget _ _ (.reg .a)
  | rlc_atHL | rrc_atHL | rl_atHL | rr_atHL | sla_atHL | sra_atHL | swap_atHL | srl_atHL =>
    exact .rotTarget _ _ .atHL
  | bit_0_b | bit_1_b | bit_2_b | bit_3_b | bit_4_b | bit_5_b | bit_6_b | bit_7_b => exact .bitTarget _ _ (.reg .b)
  | bit_0_c | bit_1_c | bit_2_c | bit_3_c | bit_4_c | bit_5_c | bit_6_c | bit_7_c => exact .bitTarget _ _ (.reg .c)
  | bit_0_d | bit_1_d | bit_2_d | bit_3_d | bit_4_d | bit_5_d | bit_6_d | bit_7_d => exact .bitTarget _ _ (.reg .d)
  | bit_0_e | bit_1_e | bit_2_e | bit_3_e | bit_4_e | bit_5_e | bit_6_e | bit_7_e => exact .bitTarget _ _ (.reg .e)
  | bit_0_h | bit_1_h | bit_2_h | bit_3_h | bit_4_h | bit_5_h | bit_6_h | bit_7_h => exact .bitTarget _ _ (.reg .h)
  | bit_0_l | bit_1_l | bit_2_l | bit_3_l | bit_4_l | bit_5_l | bit_6_l | bit_7_l => exact .bitTarget _ _ (.reg .l)
  | bit_0_a | bit_1_a | bit_2_a | bit_3_a | bit_4_a | bit_5_a | bit_6_a | bit_7_a => exact .bitTarget _ _ (.reg .a)
  | bit_0_atHL | bit_1_atHL | bit_2_atHL | bit_3_atHL | bit_4_atHL | bit_5_atHL | bit_6_atHL | bit_7_atHL =>
    exact .bitTarget _ _ .atHL
  | res_0_b | res_1_b | res_2_b | res_3_b | res_4_b | res_5_b | res_6_b | res_7_b => exact .resTarget _ _ (.reg .b)
  | res_0_c | res_1_c | res_2_c | res_3_c | res_4_c | res_5_c | res_6_c | res_7_c => exact .resTarget _ _ (.reg .c)
  | res_0_d | res_1_d | res_2_d | res_3_d | res_4_d | res_5_d | res_6_d | res_7_d => exact .resTarget _ _ (.reg .d)
  | res_0_e | res_1_e | res_2_e | res_3_e | res_4_e | res_5_e | res_6_e | res_7_e => exact .resTarget _ _ (.reg .e)
  | res_0_h | res_1_h | res_2_h | res_3_h | res_4_h | res_5_h | res_6_h | res_7_h => exact .resTarget _ _ (.reg .h)
  | res_0_l | res_1_l | res_2_l | res_3_l | res_4_l | res_5_l | res_6_l | res_7_l => exact .resTarget _ _ (.reg .l)
  | res_0_a | res_1_a | res_2_a | res_3_a | res_4_a | res_5_a | res_6_a | res_7_a => exact .resTarget _ _ (.reg .a)
  | res_0_atHL | res_1_atHL | res_2_atHL | res_3_atHL | res_4_atHL | res_5_atHL | res_6_atHL | res_7_atHL =>
    exact .resTarget _ _ .atHL
  | set_0_b | set_1_b | set_2_b | set_3_b | set_4_b | set_5_b | set_6_b | set_7_b => exact .setTarget _ _ (.reg .b)
  | set_0_c | set_1_c | set_2_c | set_3_c | set_4_c | set_5_c | set_6_c | set_7_c => exact .setTarget _ _ (.reg .c)
  | set_0_d | set_1_d | set_2_d | set_3_d | set_4_d | set_5_d | set_6_d | set_7_d => exact .setTarget _ _ (.reg .d)
  | set_0_e | set_1_e | set_2_e | set_3_e | set_4_e | set_5_e | set_6_e | set_7_e => exact .setTarget _ _ (.reg .e)
  | set_0_h | set_1_h | set_2_h | set_3_h | set_4_h | set_5_h | set_6_h | set_7_h => exact .setTarget _ _ (.reg .h)
  | set_0_l | set_1_l | set_2_l | set_3_l | set_4_l | set_5_l | set_6_l | set_7_l => exact .setTarget _ _ (.reg .l)
  | set_0_a | set_1_a | set_2_a | set_3_a | set_4_a | set_5_a | set_6_a | set_7_a => exact .setTarget _ _ (.reg .a)
  | set_0_atHL | set_1_atHL | set_2_atHL | set_3_atHL | set_4_atHL | set_5_atHL | set_6_atHL | set_7_atHL =>
    exact .setTarget _ _ .atHL
  | jp_n16 => exact .jumpAbs _ _
  | jp_nz_n16 | jp_z_n16 | jp_nc_n16 | jp_c_n16 => exact .jumpAbsCond _ _ _
  | jp_hl => exact .jumpHl _
  | jr_e8 => exact .jumpRel _ _
  | jr_nz_e8 | jr_z_e8 | jr_nc_e8 | jr_c_e8 => exact .jumpRelCond _ _ _
  | call_n16 => exact .callAbs _ _
  | call_nz_n16 | call_z_n16 | call_nc_n16 | call_c_n16 => exact .callCond _ _ _
  | ret => exact .returnOp _
  | ret_nz | ret_z | ret_nc | ret_c => exact .returnCond _ _
  | reti => exact .retiOp _
  | rst_00h | rst_08h | rst_10h | rst_18h | rst_20h | rst_28h | rst_30h | rst_38h => exact .restart _ _
  | nop => exact .nopOp _
  | halt => exact .haltOp _
  | stop => exact .stopOp _
  | di => exact .diOp _
  | ei => exact .eiOp _
  | illegal_d3 | illegal_db | illegal_dd | illegal_e3 | illegal_e4 | illegal_eb | illegal_ec | illegal_ed
  | illegal_f4 | illegal_fc | illegal_fd =>
    exact .illegalOp _
  | prefix_cb op2 => exact prefixOp_sharedOp op2 s

end Sys2Proof.Machine
end

section
/-! PROOFS. What a step can do, said once: from its state it makes moves of seven kinds (00_scope.md R16, 60_exceptions.md
R400). An invariant of the step is an invariant of each move. -/

namespace Sys2Proof.Machine

/-- One elementary change of the machine. The CPU moves freely but for F's low nibble (R22), with the cost field; `signals`
are the fields no invariant speaks of. -/
inductive Move : State → State → Prop where
  | cpu (s : State) (c : Cpu) (k : Nat) (hf : s.cpu.flagsSound → c.flagsSound) : Move s { s with cpu := c, cost := k }
  | write (s : State) (a : Word) (v : Byte) : Move s (s.write a v)
  | signals (s : State) (iflag : BitVec 5) (joypad : Joypad) (draws : Nat) (inputs : List (List HostAction)) :
      Move s { s with iflag := iflag, joypad := joypad, draws := draws, inputs := inputs }
  | pollFrameReady (s : State) : Move s s.frameReady.2
  | reset (s : State) (ram : RamImage) : Move s (s.hostReset ram)
  | ppu (s : State) (c : Nat) : Move s (s.ppuAdvance c)
  | timer (s : State) (c : Nat) : Move s (s.timerAdvance c)

/-- Any number of moves. -/
abbrev Moves : State → State → Prop := Relation.ReflTransGen Move

/-- What holds at a state and is kept by every move holds wherever the moves lead. -/
theorem Moves.keeps {P : State → Prop} (keep : ∀ s t, Move s t → P s → P t) {s t : State} (h : Moves s t) (hs : P s) :
    P t := by
  induction h with
  | refl => exact hs
  | tail _ move ih => exact keep _ _ move ih

/-- Moves lead from `s` to the state a result holds: the next one, or the one its fault leaves. Nothing is refused. -/
def Leads (s : State) : Result → Prop
  | .next t => Moves s t
  | .fault (.undefinedOpcode _ _ left) => Moves s left
  | .refused _ => False

theorem Leads.trans {s t : State} {r : Result} (h : Moves s t) (hr : Leads t r) : Leads s r := by
  cases r with
  | next => exact Relation.ReflTransGen.trans h hr
  | fault f => cases f; exact Relation.ReflTransGen.trans h hr
  | refused => exact hr

theorem Leads.ite {s : State} {r₁ r₂ : Result} {c : Prop} [Decidable c] (h₁ : Leads s r₁) (h₂ : Leads s r₂) :
    Leads s (if c then r₁ else r₂) := by
  split <;> assumption

/-! ### Changes of the CPU -/

section
variable {s t : State} (h : Moves s t)
include h

theorem Moves.setCpu (c : Cpu) (hf : t.cpu.flagsSound → c.flagsSound) : Moves s { t with cpu := c } :=
  h.tail (.cpu t c t.cost hf)

/-- A change of the CPU that leaves F. -/
theorem Moves.keepF (c : Cpu) (hf : c.f = t.cpu.f) : Moves s { t with cpu := c } :=
  h.setCpu c fun hs => (congrArg (· &&& 0x0F#8) hf).trans hs

theorem Moves.setFlags (z n hc c : Bool) : Moves s (t.setFlags z n hc c) :=
  h.setCpu _ fun _ => (t.setFlags_spec z n hc c).2.2.2.2

theorem Moves.fetched (len : Nat) : Moves s (t.fetched len) := h.keepF _ rfl
theorem Moves.setA (v : Byte) : Moves s (t.setA v) := h.keepF _ rfl
theorem Moves.setHl (w : Word) : Moves s (t.setHl w) := h.keepF _ rfl
theorem Moves.setSp (w : Word) : Moves s (t.setSp w) := h.keepF _ rfl
theorem Moves.setPc (w : Word) : Moves s (t.setPc w) := h.keepF _ rfl
theorem Moves.popped : Moves s t.popped := h.keepF _ rfl

/-- The hidden bits of R27 other than the lock. -/
theorem Moves.setHidden (ime pendingIme halted haltBug : Bool) :
    Moves s { t with cpu := { t.cpu with ime := ime, pendingIme := pendingIme, halted := halted, haltBug := haltBug } } :=
  h.keepF _ rfl

theorem Moves.setReg (r : Reg8) (v : Byte) : Moves s (t.setReg r v) := by
  obtain ⟨c, hc, hf, -⟩ := t.setReg_eq r v
  rw [hc]
  exact h.keepF c hf

theorem Moves.setPair (p : RegPair) (w : Word) : Moves s (t.setPair p w) := by
  cases p <;> exact h.keepF _ rfl

/-- AF is written with F's low nibble 0 (R22). -/
theorem Moves.setStackPair (p : StackPair) (w : Word) : Moves s (t.setStackPair p w) := by
  cases p with
  | af => exact h.setCpu _ fun _ => masked_nibble (loByte w)
  | _ => exact h.keepF _ rfl

theorem Moves.alu (op : AluOp) (b : Byte) : Moves s (t.alu op b) := by
  have flags := fun out : AluOut => h.setFlags out.z out.n out.h out.c
  cases op with
  | cp => exact flags _
  | _ => exact (flags _).setA _

/-! ### Stores, the stack, and the end of an instruction -/

theorem Moves.write (a : Word) (v : Byte) : Moves s (t.write a v) := h.tail (.write t a v)

theorem Moves.writeWord (a w : Word) : Moves s (t.writeWord a w) := (h.write _ _).write _ _

theorem Moves.push16 (w : Word) : Moves s (t.push16 w) := ((h.write _ _).write _ _).setSp _

theorem Moves.callTo (len : Nat) (target : Word) : Moves s (t.callTo len target) :=
  ((h.fetched len).push16 _).setPc target

theorem Moves.returnFromInterrupt : Moves s t.returnFromInterrupt := (h.popped.setPc _).setHidden true _ _ _

theorem Moves.withCost (n : Nat) : Moves s (t.withCost n) := h.tail (.cpu t t.cpu n id)

theorem Moves.finish (k : OpKey) (taken : Bool) : Leads s (t.finish k taken) := h.withCost _

end

/-! ### The instructions -/

theorem moves_fetched (s : State) (len : Nat) : Moves s (s.fetched len) := Moves.fetched .refl len

/-- A shared operation only moves: it fetches, sets registers and flags, stores, and finishes or raises. -/
theorem leads_of_sharedOp {s : State} {r : Result} (op : SharedOp s r) : Leads s r := by
  have start := moves_fetched s
  cases op with
  | nopOp | stopOp => exact (start _).finish _ _
  | loadRegReg | loadRegImm | loadRegMem => exact ((start _).setReg _ _).finish _ _
  | storeMemReg | loadMemImm | storeAAtPair | storeAAbs | storeAHighC | storeAHigh =>
    exact ((start _).write _ _).finish _ _
  | loadAAtPair | loadAAbs | loadAHighC | loadAHigh => exact ((start _).setA _).finish _ _
  | storeAAtHLStep => exact (((start _).write _ _).setHl _).finish _ _
  | loadAAtHLStep => exact (((start _).setA _).setHl _).finish _ _
  | loadPairImm | incPair | decPair => exact ((start _).setPair _ _).finish _ _
  | storeSpAbs => exact ((start _).writeWord _ _).finish _ _
  | loadSpHl => exact ((start _).setSp _).finish _ _
  | pushPair => exact ((start _).push16 _).finish _ _
  | popPair => exact ((start _).popped.setStackPair _ _).finish _ _
  | loadHlSpOffset | addHlPair => exact (((start _).setHl _).setFlags _ _ _ _).finish _ _
  | addSpOffset => exact (((start _).setSp _).setFlags _ _ _ _).finish _ _
  | aluReg | aluMem | aluImm => exact ((start _).alu _ _).finish _ _
  | incReg | decReg => exact (((start _).setFlags _ _ _ _).setReg _ _).finish _ _
  | incMem | decMem => exact (((start _).setFlags _ _ _ _).write _ _).finish _ _
  | daaOp | cplOp | rotA => exact (((start _).setA _).setFlags _ _ _ _).finish _ _
  | scfOp | ccfOp => exact ((start _).setFlags _ _ _ _).finish _ _
  | rotTarget k kind t =>
    cases t with
    | reg r => exact (((start _).setFlags _ _ _ _).setReg _ _).finish _ _
    | atHL => exact (((start _).setFlags _ _ _ _).write _ _).finish _ _
  | bitTarget k b t => cases t <;> exact ((start _).setFlags _ _ _ _).finish _ _
  | resTarget k b t | setTarget k b t =>
    cases t with
    | reg r => exact ((start _).setReg _ _).finish _ _
    | atHL => exact ((start _).write _ _).finish _ _
  | jumpAbs | jumpHl | jumpRel => exact ((start _).setPc _).finish _ _
  | jumpAbsCond | jumpRelCond => exact .ite (((start _).setPc _).finish _ _) ((start _).finish _ _)
  | callAbs | restart => exact (Moves.callTo .refl _ _).finish _ _
  | callCond => exact .ite ((Moves.callTo .refl _ _).finish _ _) ((start _).finish _ _)
  | returnOp => exact ((start _).popped.setPc _).finish _ _
  | returnCond => exact .ite (((start _).popped.setPc _).finish _ _) ((start _).finish _ _)
  | retiOp => exact (start _).returnFromInterrupt.finish _ _
  | haltOp => exact .ite (((start _).setHidden _ _ true _).finish _ _) (((start _).setHidden _ _ _ true).finish _ _)
  | diOp => exact ((start _).setHidden false false _ _).finish _ _
  | eiOp => exact ((start _).setHidden _ true _ _).finish _ _
  | illegalOp byte => exact (start 1).keepF _ rfl

/-- Every instruction only moves. -/
theorem exec_leads (i : Instr) (s : State) : Leads s (exec i s) := leads_of_sharedOp (exec_sharedOp i s)

/-! ### The CPU step -/

theorem State.promoteIme_moves (s : State) (promote : Bool) : Moves s (s.promoteIme promote) := by
  unfold State.promoteIme
  split
  · exact Moves.setHidden .refl true false _ _
  · exact .refl

theorem State.wake_moves (s : State) : Moves s s.wake := Moves.setHidden .refl _ _ false _

theorem State.runInstruction_leads (s : State) : Leads s s.runInstruction := by
  have h := exec_leads s.nextInstr s
  unfold State.runInstruction
  cases hr : exec s.nextInstr s with
  | next t => rw [hr] at h; exact Relation.ReflTransGen.trans h (t.promoteIme_moves _)
  | fault f => rw [hr] at h; exact h
  | refused f => rw [hr] at h; exact h

/-- Interrupt dispatch clears a bit of IF, pushes PC and jumps (R410). -/
theorem State.takeInterrupt_moves (s : State) (i : IntSource) : Moves s (s.takeInterrupt i) := by
  have cleared : Moves s { s with iflag := s.iflag &&& ~~~i.mask } :=
    .single (.signals s (s.iflag &&& ~~~i.mask) s.joypad s.draws s.inputs)
  exact (((cleared.setHidden false false _ _).push16 _).setPc _).withCost _

theorem State.cpuStep_leads (s : State) : Leads s s.cpuStep := by
  unfold State.cpuStep
  split
  · exact .refl
  · split
    · exact Moves.withCost .refl _
    · split
      · exact s.wake_moves.trans (s.wake.takeInterrupt_moves _)
      · exact Leads.trans s.wake_moves s.wake.runInstruction_leads

/-! ### The host's turn, the devices and the step -/

theorem State.act_moves (s : State) (action : HostAction) : Moves s (s.act action) := by
  have signals := fun f j => Relation.ReflTransGen.single (Move.signals s f j s.draws s.inputs)
  cases action with
  | press id =>
    show Moves s (s.pressButton id)
    unfold State.pressButton
    dsimp only
    split <;> exact signals _ _
  | release id => exact signals s.iflag _
  | requestInterrupt source => exact signals _ s.joypad
  | pollFrameReady => exact .single (.pollFrameReady s)
  | reset ram => exact .single (.reset s ram)

theorem State.hostTurn_moves (s : State) : Moves s s.hostTurn := by
  unfold State.hostTurn
  split
  · exact .refl
  · next actions rest _ =>
    exact List.foldlRecOn actions State.act (motive := Moves s) (.single (.signals s s.iflag s.joypad s.draws rest))
      fun t ht action _ => ht.trans (t.act_moves action)

theorem State.advanceDevices_moves (s : State) : Moves s s.advanceDevices :=
  ((Relation.ReflTransGen.single (.ppu s s.cost)).tail (.timer _ s.cost)).tail (.signals _ _ _ _ _)

/-- A SYSTEM STEP ONLY MOVES, and refuses nothing. -/
theorem step_leads (s : State) : Leads s (step s) := by
  have h := Leads.trans s.hostTurn_moves s.hostTurn.cpuStep_leads
  unfold step State.systemStep
  cases hr : s.hostTurn.cpuStep with
  | next t => rw [hr] at h; exact Relation.ReflTransGen.trans h t.advanceDevices_moves
  | fault f => rw [hr] at h; exact h
  | refused f => rw [hr] at h; exact h

theorem moves_of_step_next {s t : State} (h : step s = .next t) : Moves s t := by
  have := step_leads s
  rwa [h] at this

theorem moves_of_step_fault {s left : State} {byte : Byte} {pc : Word}
    (h : step s = .fault (.undefinedOpcode byte pc left)) : Moves s left := by
  have := step_leads s
  rwa [h] at this

end Sys2Proof.Machine
end

section
/-! PROOFS. The sound states (Safety.lean): each move keeps every clause of `State.Sound`. -/

namespace Sys2Proof.Machine

/-! ### The PPU (61_ppu.md R462, R498) -/

/-- The invariant speaks of five fields of the PPU only. -/
theorem Ppu.Sound.of_eq {p q : Ppu} (h : p.Sound) (hcycles : q.modeCycles = p.modeCycles) (hly : q.ly = p.ly)
    (hlyc : q.lyc = p.lyc) (hco : q.coincidence = p.coincidence) (hmode : q.mode = p.mode) : q.Sound := by
  obtain ⟨cycles, ly, co, place, lines⟩ := h
  constructor
  · rwa [hcycles]
  · rwa [hly]
  · rwa [hco, hly, hlyc]
  · rwa [hmode, hcycles]
  · rwa [hmode, hly]

theorem Ppu.sound_reset : Ppu.reset.Sound :=
  ⟨by decide, by decide, by decide, by show 0 < 80; decide, by decide⟩

/-- A write of LYC compares anew. -/
theorem Ppu.Sound.setLyc {b : PpuBus} (h : b.ppu.Sound) (v : Byte) :
    (PpuBus.updateCoincidence { b with ppu := { b.ppu with lyc := v } }).ppu.Sound :=
  ⟨h.cycles_lt, h.ly_lt, rfl, h.mode_place, h.vblank_lines⟩

/-- A write of LY puts it to 0, a line any mode may stand on. -/
theorem Ppu.Sound.setLy_zero {b : PpuBus} (h : b.ppu.Sound) : (b.setLy 0x00#8).ppu.Sound :=
  ⟨h.cycles_lt, by show 0 < 154; decide, rfl, h.mode_place, fun hly : 144 ≤ 0 => absurd hly (by decide)⟩

/-- The next line starts at position 0: in mode 1 from line 144 on, else in mode 2. -/
theorem PpuBus.nextLine_sound {b : PpuBus} (hly : b.ppu.ly.toNat < 154)
    (hlines : 144 ≤ b.ppu.ly.toNat → b.ppu.mode = .vblank) : b.nextLine.ppu.Sound := by
  rw [b.nextLine_ppu]
  dsimp only
  generalize hv : (BitVec.ofNat 8 ((b.ppu.ly.toNat + 1) % 154) : Byte) = v
  have hvn : v.toNat = (b.ppu.ly.toNat + 1) % 154 := by rw [← hv, BitVec.toNat_ofNat]; omega
  generalize hm : (if v = 144#8 then PpuMode.vblank else if v < 144#8 then .oamSearch else b.ppu.mode) = m
  have hmode : (144 ≤ v.toNat ∧ m = .vblank) ∨ (v.toNat < 144 ∧ m = .oamSearch) := by
    rw [← hm]
    split_ifs with h144 hlt
    · exact .inl ⟨by simp [h144], rfl⟩
    · exact .inr ⟨by simpa [BitVec.lt_def] using hlt, rfl⟩
    · have hne : v.toNat ≠ 144 := fun e => h144 (BitVec.eq_of_toNat_eq e)
      have hge : 144 ≤ v.toNat := by simpa [BitVec.lt_def] using hlt
      exact .inl ⟨hge, hlines (by omega)⟩
  refine ⟨by show 0 < 456; decide, by show v.toNat < 154; omega, rfl, ?_, ?_⟩
  · rcases hmode with ⟨-, rfl⟩ | ⟨-, rfl⟩
    · trivial
    · show 0 < 80; decide
  · rcases hmode with ⟨-, rfl⟩ | ⟨hlt, -⟩
    · exact fun _ => rfl
    · exact fun hge : 144 ≤ v.toNat => absurd hge (by omega)

/-- A mode allows the next position too, but for the ends of modes 2 and 3. -/
theorem PpuMode.allows.succ {m : PpuMode} {n : Nat} (h : m.allows n) (h2 : ¬(m = .oamSearch ∧ n = 79))
    (h3 : ¬(m = .pixelTransfer ∧ n = 251)) : m.allows (n + 1) := by
  unfold PpuMode.allows at h ⊢
  cases m with
  | hblank => exact Nat.le_succ_of_le h
  | vblank => trivial
  | oamSearch =>
    have : n ≠ 79 := fun e => h2 ⟨rfl, e⟩
    dsimp only at h ⊢
    omega
  | pixelTransfer =>
    have : n ≠ 251 := fun e => h3 ⟨rfl, e⟩
    dsimp only at h ⊢
    omega

/-- A tick leaves the line at its end, the mode at the mode's end, and else only counts (R461). -/
theorem PpuBus.tick_sound (draw : Nat) (vram oam : Ram) {b : PpuBus} (h : b.ppu.Sound) :
    (b.tick draw vram oam).ppu.Sound := by
  obtain ⟨cycles, ly, co, place, lines⟩ := h
  have visible : b.ppu.mode ≠ .vblank → ¬144 ≤ b.ppu.ly.toNat := fun hmode hly => hmode (lines hly)
  rcases b.tick_cases draw vram oam with ⟨-, ht⟩ | ⟨-, hmode, hend, ht⟩ | ⟨-, hmode, hend, ht⟩ | ⟨hne, h2, h3, ht⟩ <;>
    rw [ht]
  · exact PpuBus.nextLine_sound ly lines
  · refine ⟨?_, ly, co, ?_, fun hly => absurd hly (visible (by simp [hmode]))⟩
    · show b.ppu.modeCycles + 1 < 456; omega
    · show 80 ≤ b.ppu.modeCycles + 1 ∧ b.ppu.modeCycles + 1 < 252; omega
  · refine ⟨?_, ly, co, ?_, fun hly => absurd hly (visible (by simp [hmode]))⟩
    · show b.ppu.modeCycles + 1 < 456; omega
    · show 252 ≤ b.ppu.modeCycles + 1; omega
  · refine ⟨?_, ly, co, ?_, lines⟩
    · show b.ppu.modeCycles + 1 < 456; omega
    · exact place.succ h2 h3

theorem PpuBus.run_sound (draw : Nat) (vram oam : Ram) (c : Nat) {b : PpuBus} (h : b.ppu.Sound) :
    (b.run draw vram oam c).ppu.Sound := by
  induction c generalizing b with
  | zero => exact h
  | succ c ih => exact ih (PpuBus.tick_sound draw vram oam h)

/-! ### The Timer (R37) -/

@[simp] theorem TimerBus.incTima_timaAcc (b : TimerBus) : b.incTima.timer.timaAcc = b.timer.timaAcc := by
  unfold TimerBus.incTima
  split <;> rfl

theorem TimerBus.tick_sound {b : TimerBus} (h : b.timer.sound) : b.tick.timer.sound := by
  have hperiod := timerPeriod_cases b.timer.tac
  unfold Timer.sound at h ⊢
  rcases b.tick_cases with ⟨-, ht⟩ | ⟨-, hlt, ht⟩ | ⟨-, hge, ht⟩ <;> rw [ht]
  · exact h
  · show b.timer.timaAcc + 1 < 1024; omega
  · rw [TimerBus.incTima_timaAcc]; dsimp only; omega

theorem TimerBus.run_sound (c : Nat) {b : TimerBus} (h : b.timer.sound) : (b.run c).timer.sound := by
  induction c generalizing b with
  | zero => exact h
  | succ c ih => exact ih (TimerBus.tick_sound h)

/-! ### Writes -/

/-- A byte stored inside a RAM array keeps it canonical and within its size. -/
theorem Ram.sound_write {m : Ram} {size off : Nat} (h : m.wf ∧ m.within size) (hoff : off < size) (v : Byte) :
    (m.write off v).wf ∧ (m.write off v).within size :=
  ⟨Ram.wf_write m off v h.1, Ram.within_write size m off v hoff h.2⟩

theorem Memory.sound_write {m : Memory} {size off : Nat} (h : m.wf ∧ m.within size) (hoff : off < size) (v : Byte) :
    (m.write off v).wf ∧ (m.write off v).within size :=
  ⟨Memory.wf_write m off v h.1, Memory.within_write size m off v hoff h.2⟩

/-- The byte of external RAM behind an offset lies in the array. -/
theorem State.extRamOffset_lt {s : State} {off n : Nat} (h : s.extRamOffset off = some n) : n < s.params.ramBytes := by
  unfold State.extRamOffset at h
  dsimp only at h
  split at h
  · next hc =>
    simp only [Bool.and_eq_true, decide_eq_true_eq] at hc
    exact Option.some.inj h ▸ hc.2
  · simp at h

section
variable {s : State} (h : s.Sound) (v : Byte)
include h

theorem State.Sound.setPpu {p : Ppu} (hp : p.Sound) (f : BitVec 5) : State.Sound { s with ppu := p, iflag := f } :=
  ⟨h.flags, h.memory, h.mbc, hp, h.timer, h.params⟩

theorem State.Sound.setMbc {m : Mbc1} (hm : m.sound) : State.Sound { s with mbc := m } :=
  ⟨h.flags, h.memory, hm, h.ppu, h.timer, h.params⟩

theorem State.Sound.writeOam {off : Nat} (hoff : off < 160) : State.Sound { s with oam := s.oam.write off v } := by
  obtain ⟨rom, extRam, vram, wram, oam, hram, io⟩ := h.memory
  exact ⟨h.flags, ⟨rom, extRam, vram, wram, Ram.sound_write oam hoff v, hram, io⟩, h.mbc, h.ppu, h.timer, h.params⟩

/-- The DMA copy stores at offsets 0 to 159 (R135). -/
theorem State.Sound.dmaWrite : (s.dmaWrite v).Sound := by
  have start : State.Sound { s with ppu := { s.ppu with dma := v } } :=
    h.setPpu (p := { s.ppu with dma := v }) (h.ppu.of_eq rfl rfl rfl rfl rfl) s.iflag
  exact List.foldlRecOn _ _ start fun t ht i hi => ht.writeOam _ (List.mem_range.1 hi)

theorem State.Sound.ioWrite (r : IoReg) (hr : ∀ off, r = .backing off → off < ioSize) : (s.ioWrite r v).Sound := by
  obtain ⟨rom, extRam, vram, wram, oam, hram, io⟩ := h.memory
  cases r with
  | dma => exact h.dmaWrite v
  | ly => exact h.setPpu (Ppu.Sound.setLy_zero (b := s.ppuBus) h.ppu) _
  | lyc => exact h.setPpu (Ppu.Sound.setLyc (b := s.ppuBus) h.ppu v) _
  | lcdc | stat | scy | scx | bgp | obp0 | obp1 | wy | wx =>
    refine h.setPpu ?_ s.iflag
    exact h.ppu.of_eq rfl rfl rfl rfl rfl
  | backing off =>
    exact ⟨h.flags, ⟨rom, extRam, vram, wram, oam, hram, Ram.sound_write io (hr off rfl) v⟩, h.mbc, h.ppu, h.timer,
      h.params⟩
  | _ => exact ⟨h.flags, h.memory, h.mbc, h.ppu, h.timer, h.params⟩

/-- `bank1` is never written 0 (R111). -/
theorem State.Sound.bankWriteLow (off : Nat) : (s.bankWriteLow off v).Sound := by
  unfold State.bankWriteLow
  split
  · exact h.setMbc h.mbc
  · refine h.setMbc ?_
    show (if v.extractLsb' 0 5 = 0#5 then 1#5 else v.extractLsb' 0 5) ≠ 0#5
    split
    · decide
    · assumption

theorem State.Sound.bankWriteHigh (off : Nat) : (s.bankWriteHigh off v).Sound := by
  unfold State.bankWriteHigh
  split <;> exact h.setMbc h.mbc

/-- EVERY WRITE KEEPS THE MACHINE SOUND (R81). -/
theorem State.Sound.write (a : Word) : (s.write a v).Sound := by
  obtain ⟨rom, extRam, vram, wram, oam, hram, io⟩ := h.memory
  unfold State.write
  cases hr : regionOf a with
  | romFixed off => exact h.bankWriteLow v off
  | romBanked off => exact h.bankWriteHigh v off
  | vram off =>
    have := regionOf_vram hr
    have stored := Ram.sound_write vram (off := off) (by omega) v
    dsimp only
    split
    · exact h
    · exact ⟨h.flags, ⟨rom, extRam, stored, wram, oam, hram, io⟩, h.mbc, h.ppu, h.timer, h.params⟩
  | extRam off =>
    dsimp only
    split
    · next n hn =>
      have stored := Memory.sound_write extRam (State.extRamOffset_lt hn) v
      exact ⟨h.flags, ⟨rom, stored, vram, wram, oam, hram, io⟩, h.mbc, h.ppu, h.timer, h.params⟩
    · exact h
  | wram off =>
    have := regionOf_wram hr
    have stored := Ram.sound_write wram (off := off) (by omega) v
    exact ⟨h.flags, ⟨rom, extRam, vram, stored, oam, hram, io⟩, h.mbc, h.ppu, h.timer, h.params⟩
  | oam off =>
    have := regionOf_oam hr
    dsimp only
    split
    · exact h
    · exact h.writeOam v (by omega)
  | unused => exact h
  | io off =>
    have := regionOf_io hr
    refine h.ioWrite v _ fun off' he => ?_
    have := offset_of_ioRegOf_eq he
    dsimp only [IoReg.offset, ioSize] at this ⊢
    omega
  | hram off =>
    have := regionOf_hram hr
    have stored := Ram.sound_write hram (off := off) (by omega) v
    exact ⟨h.flags, ⟨rom, extRam, vram, wram, oam, stored, io⟩, h.mbc, h.ppu, h.timer, h.params⟩
  | ie => exact ⟨h.flags, h.memory, h.mbc, h.ppu, h.timer, h.params⟩

/-! ### The host's reset, and every move -/

/-- Reset keeps the cartridge and its geometry and fills the arrays within their sizes (R540). -/
theorem State.Sound.hostReset (ram : RamImage) : (s.hostReset ram).Sound where
  flags := (by decide : State.reset.cpu.flagsSound)
  memory := ⟨h.memory.1, Memory.ofCells_sound _ _, Ram.ofCells_sound _ _, Ram.ofCells_sound _ _, Ram.ofCells_sound _ _,
    Ram.ofCells_sound _ _, Ram.ofCells_sound _ _⟩
  mbc := (by decide : Mbc1.reset.sound)
  ppu := Ppu.sound_reset
  timer := (by decide : Timer.reset.sound)
  params := h.params

end

theorem Move.keeps_sound {s t : State} (move : Move s t) (h : s.Sound) : t.Sound := by
  cases move with
  | cpu c k hf => exact ⟨hf h.flags, h.memory, h.mbc, h.ppu, h.timer, h.params⟩
  | write a v => exact h.write v a
  | signals f j d i => exact ⟨h.flags, h.memory, h.mbc, h.ppu, h.timer, h.params⟩
  | pollFrameReady =>
    refine h.setPpu ?_ s.iflag
    exact h.ppu.of_eq rfl rfl rfl rfl rfl
  | reset ram => exact h.hostReset ram
  | ppu c => exact h.setPpu (PpuBus.run_sound (b := s.ppuBus) _ _ _ c h.ppu) _
  | timer c =>
    exact ⟨h.flags, h.memory, h.mbc, h.ppu, TimerBus.run_sound (b := s.timerBus) c h.timer, h.params⟩

theorem Moves.keeps_sound {s t : State} (moves : Moves s t) (h : s.Sound) : t.Sound :=
  moves.keeps (fun _ _ => Move.keeps_sound) h

end Sys2Proof.Machine

namespace Sys2Proof.Claims

open Sys2Proof.Machine

/-- Settles O9: a step only moves, and every move keeps every clause of soundness. -/
theorem stepKeepsSoundness : Obligations.StepKeepsSoundness := fun _ hs =>
  ⟨fun _ hstep => (moves_of_step_next hstep).keeps_sound hs,
    fun _ _ _ hstep => (moves_of_step_fault hstep).keeps_sound hs⟩

end Sys2Proof.Claims
end

section
/-! PROOFS. F's low nibble (10_state.md R22), the cartridge (R31, R559), and the registers after reset (R26). -/

namespace Sys2Proof.Machine

/-- Every move keeps F's low nibble 0 (R22). -/
theorem Move.keeps_flagsSound {s t : State} (move : Move s t) (h : s.cpu.flagsSound) : t.cpu.flagsSound := by
  cases move with
  | cpu c k hf => exact hf h
  | write a v => rwa [State.write_cpu]
  | reset ram => exact (by decide : State.reset.cpu.flagsSound)
  | signals | pollFrameReady | ppu | timer => exact h

/-- No move changes the cartridge image or the parameters; a store into 0x0000 to 0x7FFF reaches the bank registers
(R81). -/
theorem Move.keeps_cartridge {s t : State} (move : Move s t) : t.rom = s.rom ∧ t.params = s.params := by
  cases move with
  | write a v => exact ⟨s.write_rom a v, s.write_params a v⟩
  | cpu | signals | pollFrameReady | reset | ppu | timer => exact ⟨rfl, rfl⟩

theorem Moves.keeps_cartridge {s t : State} (moves : Moves s t) : t.rom = s.rom ∧ t.params = s.params :=
  moves.keeps (P := fun u => u.rom = s.rom ∧ u.params = s.params)
    (fun _ _ move ⟨hrom, hparams⟩ => ⟨move.keeps_cartridge.1.trans hrom, move.keeps_cartridge.2.trans hparams⟩)
    ⟨rfl, rfl⟩

end Sys2Proof.Machine

namespace Sys2Proof.Claims

open Sys2Proof.Machine

/-- POP AF masks the byte it puts in F (R22). -/
theorem exec_pop_af_flags (s : State) :
    ∃ t, exec .pop_af s = .next t ∧ t.cpu.f = loByte (poppedWord s) &&& 0xF0#8 := by
  have run := exec_pop s .af
  rw [popPair, State.finish_eq] at run
  exact ⟨_, run, rfl⟩

/-- Settles O10: the nibble is 0 at reset, every move of a step keeps it, and POP AF masks what it pops. -/
theorem flagNibbleStaysZero : Obligations.FlagNibbleStaysZero :=
  ⟨fun _ => ⟨rfl, rfl, rfl, rfl⟩, by decide,
    fun _ _ hs hstep => (moves_of_step_next hstep).keeps (fun _ _ => Move.keeps_flagsSound) hs, exec_pop_af_flags⟩

/-- Settles O11: a step only moves, and no move changes the image or the parameters. -/
theorem noStepChangesTheCartridge : Obligations.NoStepChangesTheCartridge := fun _ _ hstep =>
  (moves_of_step_next hstep).keeps_cartridge

/-- Settles O6: the pairs and the flags of the reset registers, by evaluation. -/
theorem resetLoadsTheBootDefaults : Obligations.ResetLoadsTheBootDefaults :=
  ⟨rfl, rfl, rfl, rfl, rfl, rfl, rfl, ⟨rfl, rfl, rfl, rfl, rfl⟩, rfl, rfl, rfl, rfl, rfl, rfl⟩

end Sys2Proof.Claims
end

section
/-! PROOFS. The I/O registers read back (10_state.md R45, R140). -/

namespace Sys2Proof.Machine

variable (s : State) (v : Byte) (site : ReadSite)

/-- The address of an I/O register (R71). -/
theorem regionOf_io_addr {off : Nat} (h : off < 0x80) : regionOf (BitVec.ofNat 16 (0xFF00 + off)) = .io off := by
  have hn : (BitVec.ofNat 16 (0xFF00 + off)).toNat = 0xFF00 + off := by rw [BitVec.toNat_ofNat]; omega
  have region := regionOf_spec (BitVec.ofNat 16 (0xFF00 + off))
  rw [hn] at region
  cases hr : regionOf (BitVec.ofNat 16 (0xFF00 + off)) with
  | io off' =>
    rw [hr] at region
    dsimp only at region
    rw [show off' = off by omega]
  | _ =>
    rw [hr] at region
    dsimp only at region
    omega

theorem State.readAt_io {a : Word} {off : Nat} (h : regionOf a = .io off) : s.readAt site a = s.ioRead (ioRegOf off) := by
  unfold State.readAt State.mmuRead
  rw [h]

theorem State.write_io {a : Word} {off : Nat} (h : regionOf a = .io off) : s.write a v = s.ioWrite (ioRegOf off) v := by
  unfold State.write
  rw [h]

/-- A plain register reads back the byte written; JOYP, DIV, IF, STAT and LY do not (R140). -/
theorem State.ioRead_ioWrite_self {r : IoReg} (h : r ∉ [IoReg.joyp, .div, .iflag, .stat, .ly]) :
    (s.ioWrite r v).ioRead r = v := by
  cases r with
  | joyp | div | iflag | stat | ly => simp at h
  | dma =>
    obtain ⟨m, hm⟩ := s.dmaWrite_eq v
    exact congrArg (·.ppu.dma) hm
  | backing off => exact Ram.read_write_self _ _ _ _
  | _ => rfl

/-- Only the offsets of those five registers name them. -/
theorem ioRegOf_plain {off : Nat} (h : off ∉ [0x00, 0x04, 0x0F, 0x41, 0x44]) :
    ioRegOf off ∉ [IoReg.joyp, .div, .iflag, .stat, .ly] := by
  intro hr
  have hoff : ∃ r ∈ [IoReg.joyp, .div, .iflag, .stat, .ly], off = r.offset := ⟨_, hr, (ioRegOf_offset off).symm⟩
  simp only [List.mem_cons, List.not_mem_nil, or_false, exists_eq_or_imp, exists_eq_left, IoReg.offset] at hoff
  simp only [List.mem_cons, List.not_mem_nil, or_false] at h
  exact h hoff

/-- IF reads as its five bits under three ones (R140, D41). -/
theorem State.ioRead_iflag_toNat : (s.ioRead .iflag).toNat = 224 + s.iflag.toNat := by
  show (0b111#3 ++ s.iflag).toNat = _
  rw [BitVec.toNat_append, ← Nat.shiftLeft_add_eq_or_of_lt s.iflag.isLt]
  rfl

/-- JOYP reads as two ones, the select bits and the active-low lines (R126). -/
theorem State.ioRead_joyp_toNat : (s.ioRead .joyp).toNat = 192 + s.joypad.select.toNat * 16 + s.joypad.low.toNat := by
  show (0b11#2 ++ s.joypad.select ++ s.joypad.low).toNat = _
  rw [BitVec.toNat_append, ← Nat.shiftLeft_add_eq_or_of_lt s.joypad.low.isLt, BitVec.toNat_append,
    ← Nat.shiftLeft_add_eq_or_of_lt s.joypad.select.isLt]
  simp only [Nat.shiftLeft_eq, BitVec.toNat_ofNat]
  omega

/-- A line of JOYP is low when a selected row has its button pressed (R126). -/
theorem State.ioRead_joyp_line {k : Nat} (hk : k < 4) :
    (s.ioRead .joyp).getLsbD k =
      !((!s.joypad.select.getLsbD 0 && s.joypad.pressed.getLsbD k) ||
        (!s.joypad.select.getLsbD 1 && s.joypad.pressed.getLsbD (k + 4))) := by
  show (0b11#2 ++ s.joypad.select ++ s.joypad.low).getLsbD k = _
  rw [BitVec.getLsbD_append, if_pos hk]
  unfold Joypad.low
  simp only [BitVec.getLsbD_not, BitVec.getLsbD_or, hk, decide_true, Bool.true_and]
  cases s.joypad.select.getLsbD 0 <;> cases s.joypad.select.getLsbD 1 <;> simp [hk, Nat.add_comm]

end Sys2Proof.Machine

namespace Sys2Proof.Claims

open Sys2Proof.Machine

/-- Settles O47: the plain registers by their offsets; IF, JOYP and SC from what their reads and writes are. -/
theorem ioRegistersReadBack : Obligations.IoRegistersReadBack := by
  intro s v site
  have joyp : regionOf 0xFF00#16 = .io 0x00 := rfl
  have sc : regionOf 0xFF02#16 = .io 0x02 := rfl
  have iflag : regionOf 0xFF0F#16 = .io 0x0F := rfl
  rw [State.write_io _ _ iflag, State.readAt_io _ _ iflag, State.write_io _ _ joyp, State.readAt_io _ _ joyp,
    State.write_io _ _ sc]
  refine ⟨fun off hoff hplain => ?_, ?_, ?_, rfl, fun k hk => s.ioRead_joyp_line hk, ?_, ?_, rfl⟩
  · have region := regionOf_io_addr hoff
    rw [State.write_io _ _ region, State.readAt_io _ _ region, State.ioRead_ioWrite_self _ _ (ioRegOf_plain hplain)]
  · refine (State.ioRead_iflag_toNat _).trans ?_
    show 224 + (v.extractLsb' 0 5).toNat = _
    rw [BitVec.extractLsb'_toNat, Nat.shiftRight_zero]
  · show (v.extractLsb' 4 2).toNat = _
    rw [BitVec.extractLsb'_toNat, Nat.shiftRight_eq_div_pow]
  · have hread := s.ioRead_joyp_toNat
    have hlow := s.joypad.low.isLt
    show (s.ioRead .joyp).toNat / 16 = _
    omega
  · have msb : v.getLsbD 7 = decide (128 ≤ v.toNat) := v.msb_eq_getLsbD_last.symm.trans v.msb_eq_decide
    show (if v.getLsbD 7 = true then _ else _) = _
    simp only [msb, decide_eq_true_eq]

end Sys2Proof.Claims
end

section
/-! PROOFS. Memory read back, and the echo of work RAM (20_memory.md R71, R74, R80, R81, R82): an access depends on its
address only by the region and offset it names. -/

namespace Sys2Proof.Machine

open Sys2Proof.Claims

variable (s : State) (site : ReadSite) (v : Byte)

/-- A byte written to plain RAM is read back (R74, R80, R81). -/
theorem State.readAt_write_self {a : Word} (h : ramAt s a = true) : (s.write a v).readAt site a = v := by
  unfold ramAt at h
  unfold State.write State.readAt State.mmuRead
  cases ha : regionOf a with
  | romFixed _ | romBanked _ | unused | io _ => simp [ha] at h
  | vram off =>
    rw [ha] at h
    have hopen : (s.params.blocking && s.ppu.mode.blocksVram) = false := (Bool.not_eq_true' _).mp h
    simp [hopen]
  | oam off =>
    rw [ha] at h
    have hopen : (s.params.blocking && s.ppu.mode.blocksOam) = false := (Bool.not_eq_true' _).mp h
    simp [hopen]
  | extRam off =>
    rw [ha] at h
    obtain ⟨n, hn⟩ := Option.isSome_iff_exists.mp h
    have hsame : State.extRamOffset { s with extRam := s.extRam.write n v } off = some n := hn
    simp [hn, hsame]
  | wram _ | hram _ => exact Ram.read_write_self _ _ _ _
  | ie => rfl

/-- Two addresses of one byte read alike; only in the unused range does a read look at the address itself (R78). -/
theorem State.readAt_of_regionOf_eq {a b : Word} (hunused : regionOf b ≠ .unused) (h : regionOf a = regionOf b) :
    s.readAt site a = s.readAt site b := by
  unfold State.readAt State.mmuRead
  rw [h]
  cases hb : regionOf b with
  | unused => exact absurd hb hunused
  | _ => rfl

/-- Writes at two addresses of one byte are one write. -/
theorem State.write_of_regionOf_eq {a b : Word} (h : regionOf a = regionOf b) : s.write a v = s.write b v := by
  unfold State.write
  rw [h]

/-- Work RAM and its echo (R71, R82). -/
theorem regionOf_wram_addr {a : Word} (hge : 0xC000 ≤ a.toNat) (hlt : a.toNat < 0xFE00) :
    regionOf a = .wram ((a.toNat - 0xC000) % 0x2000) := by
  have region := regionOf_spec a
  cases hr : regionOf a with
  | wram off =>
    rw [hr] at region
    rw [region.2.2]
  | _ =>
    rw [hr] at region
    dsimp only at region
    omega

/-- An echo address names the byte of the address 0x2000 lower (R82). -/
theorem regionOf_echo {a : Word} (hge : 0xE000 ≤ a.toNat) (hlt : a.toNat < 0xFE00) :
    regionOf a = regionOf (a - 0x2000#16) := by
  have low : (a - 0x2000#16).toNat = a.toNat - 0x2000 := by bv_omega
  rw [regionOf_wram_addr (by omega) hlt, regionOf_wram_addr (by omega) (by omega), low]
  exact congrArg Region.wram (by omega)

/-- A write to the top 512 bytes of work RAM touches no echo address (R82). -/
theorem touches_echo_of_top {a b : Word} (ha : 0xDE00 ≤ a.toNat ∧ a.toNat < 0xE000)
    (hb : 0xE000 ≤ b.toNat ∧ b.toNat < 0xFE00) : touches a b = false := by
  unfold touches
  dsimp only
  rw [if_neg (by omega), if_neg (by omega), if_neg (by omega), if_pos (by omega), decide_eq_false_iff_not]
  omega

end Sys2Proof.Machine

namespace Sys2Proof.Claims

open Sys2Proof.Machine

/-- Settles O42: the frame of a write, and plain RAM read back, each in every region. -/
theorem writesReachTheirAddressAlone : Obligations.WritesReachTheirAddressAlone :=
  ⟨fun s _ _ v site h => State.readAt_write_of_untouched h s v site, fun s _ v site h => s.readAt_write_self site v h⟩

/-- Settles O43: an echo address and the one 0x2000 lower name one byte of work RAM, which is always plain RAM. -/
theorem echoMirrorsWorkRam : Obligations.EchoMirrorsWorkRam := by
  intro s a v site
  refine ⟨fun ⟨hge, hlt⟩ => ?_, fun ha b hge hlt =>
    State.readAt_write_of_untouched (touches_echo_of_top ha ⟨hge, hlt⟩) s v site⟩
  have echo := regionOf_echo hge hlt
  have region := regionOf_wram_addr (by omega : 0xC000 ≤ a.toNat) hlt
  have mirror : ∀ t : State, t.readAt site a = t.readAt site (a - 0x2000#16) := fun t =>
    t.readAt_of_regionOf_eq site (by rw [← echo, region]; nofun) echo
  have back : (s.write a v).readAt site a = v := s.readAt_write_self site v (by rw [ramAt, region])
  rw [← s.write_of_regionOf_eq v echo, ← mirror, ← mirror]
  exact ⟨rfl, back, back, back, back⟩

end Sys2Proof.Claims
end

section
/-! PROOFS. The bank controller and the gated memories (21_mmu_io_mbc1.md R110 to R121, 20_memory.md R80, R81): the region an
address range names, the access to each region, and what the bank selectors answer. -/

namespace Sys2Proof.Machine

section
variable {a : Word}

/-! ### The region of an address range (R71) -/

theorem regionOf_romFixed_addr (hlt : a.toNat < 0x4000) : regionOf a = .romFixed a.toNat := by
  unfold regionOf
  exact if_pos hlt

theorem regionOf_romBanked_addr (hge : 0x4000 ≤ a.toNat) (hlt : a.toNat < 0x8000) :
    regionOf a = .romBanked (a.toNat - 0x4000) := by
  unfold regionOf
  simp (disch := omega) only [if_pos, if_neg]

theorem regionOf_vram_addr (hge : 0x8000 ≤ a.toNat) (hlt : a.toNat < 0xA000) :
    regionOf a = .vram (a.toNat - 0x8000) := by
  unfold regionOf
  simp (disch := omega) only [if_pos, if_neg]

theorem regionOf_extRam_addr (hge : 0xA000 ≤ a.toNat) (hlt : a.toNat < 0xC000) :
    regionOf a = .extRam (a.toNat - 0xA000) := by
  unfold regionOf
  simp (disch := omega) only [if_pos, if_neg]

theorem regionOf_oam_addr (hge : 0xFE00 ≤ a.toNat) (hlt : a.toNat < 0xFEA0) :
    regionOf a = .oam (a.toNat - 0xFE00) := by
  unfold regionOf
  simp (disch := omega) only [if_pos, if_neg]

end

/-! ### The access to each region (R80, R81) -/

section
variable (s : State) (site : ReadSite) (v : Byte) {a : Word} {off : Nat}

theorem State.readAt_romFixed (h : regionOf a = .romFixed off) : s.readAt site a = s.rom.read off := by
  unfold State.readAt State.mmuRead
  rw [h]

theorem State.readAt_romBanked (h : regionOf a = .romBanked off) :
    s.readAt site a = s.rom.read (s.effRomBank * 0x4000 + off) := by
  unfold State.readAt State.mmuRead
  rw [h]

theorem State.write_romFixed (h : regionOf a = .romFixed off) : s.write a v = s.bankWriteLow off v := by
  unfold State.write
  rw [h]

theorem State.write_romBanked (h : regionOf a = .romBanked off) : s.write a v = s.bankWriteHigh off v := by
  unfold State.write
  rw [h]

/-- No byte of external RAM behind the offset: it reads 0xFF and the write is dropped (R120). -/
theorem State.access_extRam_none (h : regionOf a = .extRam off) (hn : s.extRamOffset off = none) :
    s.readAt site a = 0xFF#8 ∧ s.write a v = s := by
  unfold State.readAt State.mmuRead State.write
  simp only [h, hn, and_self]

theorem State.access_extRam_some {n : Nat} (h : regionOf a = .extRam off) (hn : s.extRamOffset off = some n) :
    s.readAt site a = s.extRam.read n ∧ s.write a v = { s with extRam := s.extRam.write n v } := by
  unfold State.readAt State.mmuRead State.write
  simp only [h, hn, and_self]

theorem PpuMode.blocksVram_iff (m : PpuMode) : m.blocksVram = true ↔ m = .pixelTransfer := beq_iff_eq

theorem PpuMode.blocksOam_iff (m : PpuMode) : m.blocksOam = true ↔ m = .oamSearch ∨ m = .pixelTransfer := by
  unfold PpuMode.blocksOam
  rw [Bool.or_eq_true, beq_iff_eq, beq_iff_eq]

theorem State.access_vram_blocked (h : regionOf a = .vram off)
    (hb : s.params.blocking = true ∧ s.ppu.mode = .pixelTransfer) : s.readAt site a = 0xFF#8 ∧ s.write a v = s := by
  rw [← PpuMode.blocksVram_iff, ← Bool.and_eq_true] at hb
  unfold State.readAt State.mmuRead State.write
  simp only [h, hb, if_true, and_self]

theorem State.access_vram_open (h : regionOf a = .vram off)
    (hb : ¬(s.params.blocking = true ∧ s.ppu.mode = .pixelTransfer)) :
    s.readAt site a = s.vram.read .vram off ∧ s.write a v = { s with vram := s.vram.write off v } := by
  rw [← PpuMode.blocksVram_iff, ← Bool.and_eq_true] at hb
  unfold State.readAt State.mmuRead State.write
  simp only [h, if_neg hb, and_self]

theorem State.access_oam_blocked (h : regionOf a = .oam off)
    (hb : s.params.blocking = true ∧ (s.ppu.mode = .oamSearch ∨ s.ppu.mode = .pixelTransfer)) :
    s.readAt site a = 0xFF#8 ∧ s.write a v = s := by
  rw [← PpuMode.blocksOam_iff, ← Bool.and_eq_true] at hb
  unfold State.readAt State.mmuRead State.write
  simp only [h, hb, if_true, and_self]

theorem State.access_oam_open (h : regionOf a = .oam off)
    (hb : ¬(s.params.blocking = true ∧ (s.ppu.mode = .oamSearch ∨ s.ppu.mode = .pixelTransfer))) :
    s.readAt site a = s.oam.read .oam off ∧ s.write a v = { s with oam := s.oam.write off v } := by
  rw [← PpuMode.blocksOam_iff, ← Bool.and_eq_true] at hb
  unfold State.readAt State.mmuRead State.write
  simp only [h, if_neg hb, and_self]

end

/-! ### The registers of the bank controller, in numbers (R110 to R113) -/

section
variable (s : State) {off : Nat} (v : Byte)

theorem State.bankWriteLow_ramEnable (h : off < 0x2000) :
    s.bankWriteLow off v = { s with mbc := { s.mbc with ramEnabled := decide (v.toNat % 16 = 10) } } := by
  have low : v.extractLsb' 0 4 = 0xA#4 ↔ v.toNat % 16 = 10 := by
    rw [← BitVec.toNat_inj, BitVec.extractLsb'_toNat, Nat.shiftRight_zero]
    rfl
  unfold State.bankWriteLow
  rw [if_pos h]
  simp only [low]

/-- The low bits of the ROM bank are never written 0 (R111). -/
theorem State.bankWriteLow_bank1 (h : 0x2000 ≤ off) :
    ∃ k : BitVec 5, s.bankWriteLow off v = { s with mbc := { s.mbc with bank1 := k } } ∧
      k.toNat = (if v.toNat % 32 = 0 then 1 else v.toNat % 32) := by
  have low : (v.extractLsb' 0 5).toNat = v.toNat % 32 := by rw [BitVec.extractLsb'_toNat, Nat.shiftRight_zero]
  have zero : v.extractLsb' 0 5 = 0#5 ↔ v.toNat % 32 = 0 := by
    rw [← BitVec.toNat_inj, low]
    rfl
  unfold State.bankWriteLow
  refine ⟨_, if_neg (by omega), ?_⟩
  simp only [zero]
  split
  · rfl
  · exact low

theorem State.bankWriteHigh_bank2 (h : off < 0x2000) :
    ∃ k : BitVec 2, s.bankWriteHigh off v = { s with mbc := { s.mbc with bank2 := k } } ∧ k.toNat = v.toNat % 4 := by
  unfold State.bankWriteHigh
  exact ⟨_, if_pos h, by rw [BitVec.extractLsb'_toNat, Nat.shiftRight_zero]⟩

/-- The mode is bit 0 of the byte (D15). -/
theorem State.bankWriteHigh_mode1 (h : 0x2000 ≤ off) :
    s.bankWriteHigh off v = { s with mbc := { s.mbc with mode1 := decide (v.toNat % 2 = 1) } } := by
  have bit : v.getLsbD 0 = decide (v.toNat % 2 = 1) := by
    rw [BitVec.getLsbD, Nat.testBit_zero]
  unfold State.bankWriteHigh
  rw [if_neg (by omega), bit]

/-! ### The bank selectors (R114, R115) -/

theorem State.effRomBank_eq_min : s.effRomBank =
    min (if s.mbc.mode1 then s.mbc.bank1.toNat else s.mbc.bank2.toNat * 32 + s.mbc.bank1.toNat)
      (s.params.romBanks - 1) := by
  unfold State.effRomBank
  dsimp only
  generalize (if s.mbc.mode1 then s.mbc.bank1.toNat else s.mbc.bank2.toNat * 32 + s.mbc.bank1.toNat) = n
  split <;> omega

/-- With `bank1` not 0 and at least two banks the window shows a bank of the image, never bank 0 (R114). -/
theorem State.effRomBank_bounds (hm : s.mbc.sound) (hp : 2 ≤ s.params.romBanks) :
    1 ≤ s.effRomBank ∧ s.effRomBank < s.params.romBanks := by
  have hpos : s.mbc.bank1.toNat ≠ 0 := fun h => hm (BitVec.eq_of_toNat_eq h)
  rw [s.effRomBank_eq_min]
  split <;> omega

/-- A RAM of 2048 or 8192 bytes has one bank, and the clamp answers 0; one of 32768 bytes has four, all that `bank2` can name
(R115, D16). -/
theorem State.effRamBank_eq
    (h : s.params.ramBytes = 2048 ∨ s.params.ramBytes = 8192 ∨ s.params.ramBytes = 32768) :
    s.effRamBank = if s.params.ramBytes = 32768 ∧ s.mbc.mode1 = true then s.mbc.bank2.toNat else 0 := by
  have hbank := s.mbc.bank2.isLt
  unfold State.effRamBank State.ramBanks
  cases s.mbc.mode1 with
  | false => simp
  | true =>
    simp only [if_true, and_true]
    split <;> split <;> omega

/-- The byte of external RAM behind an offset, for the RAM sizes a cartridge can have (R118, R120, R121). -/
theorem State.extRamOffset_eq
    (h : s.params.ramBytes = 0 ∨ s.params.ramBytes = 2048 ∨ s.params.ramBytes = 8192 ∨ s.params.ramBytes = 32768) :
    s.extRamOffset off =
      let at_ := (if s.params.ramBytes = 32768 ∧ s.mbc.mode1 = true then s.mbc.bank2.toNat else 0) * 0x2000 + off
      if s.mbc.ramEnabled = true ∧ at_ < s.params.ramBytes then some at_ else none := by
  unfold State.extRamOffset
  simp only [Bool.and_eq_true, decide_eq_true_eq]
  obtain h | h := h
  · simp only [h, Nat.not_lt_zero, and_false, if_false]
  · rw [s.effRamBank_eq h]

end

end Sys2Proof.Machine

namespace Sys2Proof.Claims

open Sys2Proof.Machine

/-- Settles O44: each register's range of addresses lies in one of the two ROM regions. -/
theorem bankRegisterWrites : Obligations.BankRegisterWrites := by
  intro s a v
  refine ⟨fun hlt => ?_, fun hge hlt => ?_, fun hge hlt => ?_⟩
  · rw [s.write_romFixed v (regionOf_romFixed_addr (by omega))]
    exact s.bankWriteLow_ramEnable v hlt
  · rw [s.write_romFixed v (regionOf_romFixed_addr hlt)]
    exact s.bankWriteLow_bank1 v hge
  · rw [s.write_romBanked v (regionOf_romBanked_addr (by omega) hlt)]
    exact s.bankWriteHigh_mode1 v (by omega)

/-- Settles O45: the bank shown is `EffRomBank()`, a minimum that is neither 0 nor past the last bank. -/
theorem romWindowShowsTheSelectedBank : Obligations.RomWindowShowsTheSelectedBank := by
  intro s site a hm hp
  refine ⟨fun hlt => s.readAt_romFixed site (regionOf_romFixed_addr hlt), fun hge hlt => ?_, fun v hge hlt => ?_⟩
  · obtain ⟨hpos, hlast⟩ := s.effRomBank_bounds hm hp
    exact ⟨s.effRomBank, hpos, hlast, s.effRomBank_eq_min, s.readAt_romBanked site (regionOf_romBanked_addr hge hlt)⟩
  · rw [s.write_romBanked v (regionOf_romBanked_addr hge (by omega))]
    exact s.bankWriteHigh_bank2 v (by omega)

/-- Settles O46: each window's accesses, as its gate is shut or open. -/
theorem gatedMemoryReadsAsOnes : Obligations.GatedMemoryReadsAsOnes := by
  refine ⟨fun s site a v hge hlt => ?_, fun s site a v => ⟨fun hge hlt => ?_, fun hge hlt => ?_⟩⟩
  · intro bank off hsize
    have region := regionOf_extRam_addr hge hlt
    have byte := s.extRamOffset_eq (off := a.toNat - 0xA000) hsize
    refine ⟨fun hshut => s.access_extRam_none site v region (byte.trans (if_neg ?_)),
      fun hon hoff => s.access_extRam_some site v region (byte.trans (if_pos ⟨hon, hoff⟩))⟩
    rintro ⟨hon, hoff⟩
    exact hshut.elim (fun hdisabled => Bool.false_ne_true (hdisabled.symm.trans hon)) fun hend => hoff.not_ge hend
  · have region := regionOf_vram_addr hge hlt
    exact ⟨s.access_vram_blocked site v region, s.access_vram_open site v region⟩
  · have region := regionOf_oam_addr hge hlt
    exact ⟨s.access_oam_blocked site v region, s.access_oam_open site v region⟩

end Sys2Proof.Claims
end

section
/-! PROOFS. The OAM copy (21_mmu_io_mbc1.md R135, R554): no byte it stores is one it reads later. -/

namespace Sys2Proof.Machine

variable (s : State) (v : Byte)

/-- The only byte of OAM that can be the source of the copy's byte `i` is byte `i` itself. -/
theorem regionOf_dmaSource {i off : Nat} (hi : i < 160)
    (h : regionOf (BitVec.ofNat 16 (v.toNat * 256 + i)) = .oam off) : off = i := by
  have hsource := regionOf_oam h
  have hv := v.isLt
  rw [BitVec.toNat_ofNat] at hsource
  omega

/-- The copy's byte `i` does not depend on the rest of OAM. It is a read of the machine with BLOCKING off (R83, R135). -/
theorem State.mmuRead_dmaSource {m : Ram} {i : Nat} (hi : i < 160) (h : m.read .oam i = s.oam.read .oam i) :
    State.mmuRead false .data { s with oam := m } (BitVec.ofNat 16 (v.toNat * 256 + i)) =
      s.mmuRead false .data (BitVec.ofNat 16 (v.toNat * 256 + i)) := by
  refine State.readAt_oam { s with params := { s.params with blocking := false } } .data _ m fun off hoff => ?_
  rw [regionOf_dmaSource v hi hoff]
  exact h

/-- After `n` bytes of the copy, OAM holds the source below `n` and what it held from `n` on. -/
theorem State.dmaCopy_range {n : Nat} (hn : n ≤ 160) :
    ∃ m : Ram, (List.range n).foldl (State.dmaByte v) s = { s with oam := m } ∧
      (∀ i < n, m.read .oam i = s.mmuRead false .data (BitVec.ofNat 16 (v.toNat * 256 + i))) ∧
      ∀ i : Nat, n ≤ i → m.read .oam i = s.oam.read .oam i := by
  induction n with
  | zero => exact ⟨s.oam, rfl, nofun, fun _ _ => rfl⟩
  | succ n ih =>
    obtain ⟨m, hm, copied, kept⟩ := ih (by omega)
    have source := s.mmuRead_dmaSource v (by omega) (kept n le_rfl)
    refine ⟨m.write n (s.mmuRead false .data (BitVec.ofNat 16 (v.toNat * 256 + n))), ?_, fun i hi => ?_, fun i hi => ?_⟩
    · rw [List.range_succ, List.foldl_concat, hm, ← source]
      rfl
    · rw [Ram.read_write]
      split
      · next h => rw [h]
      · exact copied i (by omega)
    · rw [Ram.read_write_ne _ _ _ _ _ (by omega)]
      exact kept i (by omega)

end Sys2Proof.Machine

namespace Sys2Proof.Claims

open Sys2Proof.Machine

/-- Settles O48: the copy of all 160 bytes, from the state that holds `v` in 0xFF46. -/
theorem dmaCopiesAPageIntoOam : Obligations.DmaCopiesAPageIntoOam := by
  intro s v
  have region : regionOf 0xFF46#16 = .io 0x46 := rfl
  rw [s.write_io v region]
  exact State.dmaCopy_range { s with ppu := { s.ppu with dma := v } } v le_rfl

end Sys2Proof.Claims
end

section
/-! PROOFS. The encoding (30_encoding.md R160 to R173). The cell of an opcode byte says which operand bytes follow it and which
instruction they make; the two directions of the round trip meet in these cells. -/

namespace Sys2Proof

/-! ### The cells of the tables -/

/-- The instruction of a cell under an operand word, whose low byte is the operand of the formats with one byte (R161). -/
def Slot.instr (nn : Word) : Slot → Instr
  | .op i => i
  | .byte f => f (operandLo nn)
  | .word f => f nn
  | .cbTable => decodeCb (operandLo nn)

/-- The bytes that follow the opcode byte in the format of a cell (R161). -/
def Slot.operands (nn : Word) : Slot → List Byte
  | .op _ => []
  | .byte _ | .cbTable => [operandLo nn]
  | .word _ => [operandLo nn, operandHi nn]

/-- Every cell of the `cb` table is where the encoder puts its instruction (R170). -/
theorem decodeCb_encoding : ∀ op2 : Byte,
    (decodeCb op2).wellFormed = true ∧ encode (decodeCb op2) = [0xCB#8, op2] := by decide

/-- Every cell of the base table is where the encoder puts its instructions, in the cell's format (R169). -/
theorem baseSlot_encoding (op : Byte) (nn : Word) :
    ((baseSlot op).instr nn).wellFormed = true ∧
      encode ((baseSlot op).instr nn) = op :: (baseSlot op).operands nn := by
  obtain ⟨n, hn, rfl⟩ : ∃ n < 256, op = BitVec.ofNat 8 n := ⟨op.toNat, op.isLt, by simp⟩
  obtain hlt | rfl | hgt := lt_trichotomy n 0xCB
  · interval_cases n <;> exact ⟨rfl, rfl⟩
  · exact decodeCb_encoding (operandLo nn)
  · interval_cases n <;> exact ⟨rfl, rfl⟩

/-! ### What the decoder accepts -/

@[simp] theorem operandLo_wordOf (hi lo : Byte) : operandLo (Machine.wordOf hi lo) = lo :=
  BitVec.extractLsb'_append_eq_right

@[simp] theorem operandHi_wordOf (hi lo : Byte) : operandHi (Machine.wordOf hi lo) = hi :=
  BitVec.extractLsb'_append_eq_left

/-- The decoder of a step reads the cell of the first byte under the word of the next two. -/
theorem decodeBytes_eq_instr (b0 b1 b2 : Byte) :
    decodeBytes b0 b1 b2 = (baseSlot b0).instr (Machine.wordOf b2 b1) := by
  unfold decodeBytes Slot.instr
  cases baseSlot b0 <;> simp

/-- Whatever the decoder accepts is a cell's instruction and the operand bytes of the cell's format. -/
theorem decode_cons_ok {op : Byte} {tail rest : List Byte} {i : Instr} (h : decode (op :: tail) = .ok (i, rest)) :
    ∃ nn : Word, i = (baseSlot op).instr nn ∧ tail = (baseSlot op).operands nn ++ rest := by
  simp only [decode] at h
  split at h
  · next hslot =>
    cases h
    exact ⟨0#16, by simp [hslot, Slot.instr, Slot.operands]⟩
  · next n _ hslot =>
    cases h
    exact ⟨Machine.wordOf 0#8 n, by simp [hslot, Slot.instr, Slot.operands]⟩
  · next lo hi _ hslot =>
    cases h
    exact ⟨Machine.wordOf hi lo, by simp [hslot, Slot.instr, Slot.operands]⟩
  · next op2 _ hslot =>
    cases h
    exact ⟨Machine.wordOf 0#8 op2, by simp [hslot, Slot.instr, Slot.operands]⟩
  · nomatch h

/-- The bytes taken from a list are the encoding of the instruction they give. -/
theorem encode_of_decode {bytes rest : List Byte} {i : Instr} (h : decode bytes = .ok (i, rest)) :
    i.wellFormed = true ∧ bytes = encode i ++ rest := by
  cases bytes with
  | nil => nomatch h
  | cons op tail =>
    obtain ⟨nn, rfl, rfl⟩ := decode_cons_ok h
    obtain ⟨hwf, henc⟩ := baseSlot_encoding op nn
    exact ⟨hwf, by rw [henc, List.cons_append]⟩

/-- No instruction is longer than three bytes. -/
theorem decode_three_bytes (b0 b1 b2 : Byte) (rest : List Byte) :
    ∃ after : List Byte, decode (b0 :: b1 :: b2 :: rest) = .ok (decodeBytes b0 b1 b2, after) := by
  unfold decode decodeBytes
  cases hslot : baseSlot b0 with
  | op => exact ⟨b1 :: b2 :: rest, by simp [hslot]⟩
  | byte | cbTable => exact ⟨b2 :: rest, by simp [hslot]⟩
  | word => exact ⟨rest, by simp [hslot]⟩

/-! ### Decoding an encoding -/

/-- A row with an operand is read back in its format; the bytes of any other row are constants, and the decoder computes. -/
theorem decode_encode (i : Instr) : Laws.RoundTrip.Statement i := by
  intro hwf rest
  cases i with
  | ld_bc_n16 | ld_de_n16 | ld_hl_n16 | ld_sp_n16 | ld_atN16_sp | ld_atN16_a | ld_a_atN16 | jp_n16 | jp_nz_n16
  | jp_z_n16 | jp_nc_n16 | jp_c_n16 | call_n16 | call_nz_n16 | call_z_n16 | call_nc_n16 | call_c_n16 =>
    exact Laws.RoundTrip.of_word rfl _ rest
  | ld_b_n8 | ld_c_n8 | ld_d_n8 | ld_e_n8 | ld_h_n8 | ld_l_n8 | ld_atHL_n8 | ld_a_n8 | add_a_n8 | adc_a_n8 | sub_n8
  | sbc_a_n8 | and_n8 | xor_n8 | or_n8 | cp_n8 | ldh_atN8_a | ldh_a_atN8 | jr_e8 | jr_nz_e8 | jr_z_e8 | jr_nc_e8
  | jr_c_e8 | add_sp_e8 | ld_hl_spE8 | stop =>
    exact Laws.RoundTrip.of_byte rfl _ rest
  | prefix_cb => nomatch hwf
  | _ => rfl

end Sys2Proof

namespace Sys2Proof.Claims

/-- Settles O3: row by row, by the format of the row. -/
theorem decodeGivesBackTheEncoded : Obligations.DecodeGivesBackTheEncoded := decode_encode

/-- Settles O4: the cell of the first byte gives both the instruction and the bytes taken. -/
theorem decodedBytesAreTheEncoding : Obligations.DecodedBytesAreTheEncoding :=
  ⟨fun _ _ _ => encode_of_decode, decode_three_bytes⟩

/-- Settles O2, by running the decoder on the words. -/
theorem decodesWordsOfTheSpec : Obligations.DecodesWordsOfTheSpec := by
  unfold Obligations.DecodesWordsOfTheSpec
  decide

end Sys2Proof.Claims
end

section
/-! PROOFS. The undefined opcodes (30_encoding.md R171, R172, 46_system.md R365, 60_exceptions.md R430): which bytes they are,
and that every other instruction completes. -/

namespace Sys2Proof

@[simp] theorem encode_illegal (b : IllegalByte) : encode (.illegal b) = [b.byte] := by cases b <;> rfl

/-- An undefined row is decoded from its own byte and from no other, since encoding gives the opcode byte back. -/
theorem decodeBytes_eq_illegal_iff (b0 b1 b2 : Byte) (b : IllegalByte) :
    decodeBytes b0 b1 b2 = .illegal b ↔ b0 = b.byte := by
  constructor
  · intro h
    have henc := (baseSlot_encoding b0 (Machine.wordOf b2 b1)).2
    rw [← decodeBytes_eq_instr, h, encode_illegal] at henc
    exact (List.cons.inj henc).1.symm
  · rintro rfl
    cases b <;> rfl

/-- The eleven bytes of R171. -/
theorem IllegalByte.exists_byte_iff (op : Byte) : (∃ b : IllegalByte, op = b.byte) ↔
    op ∈ [0xD3#8, 0xDB#8, 0xDD#8, 0xE3#8, 0xE4#8, 0xEB#8, 0xEC#8, 0xED#8, 0xF4#8, 0xFC#8, 0xFD#8] := by
  constructor
  · rintro ⟨b, rfl⟩
    cases b <;> decide
  · intro h
    fin_cases h
    exacts [⟨.xD3, rfl⟩, ⟨.xDB, rfl⟩, ⟨.xDD, rfl⟩, ⟨.xE3, rfl⟩, ⟨.xE4, rfl⟩, ⟨.xEB, rfl⟩, ⟨.xEC, rfl⟩, ⟨.xED, rfl⟩,
      ⟨.xF4, rfl⟩, ⟨.xFC, rfl⟩, ⟨.xFD, rfl⟩]

end Sys2Proof

namespace Sys2Proof.Machine

/-- Whatever row of the `cb` table the second byte selects, PREFIX CB completes (R305). -/
theorem prefixOp_completes (op2 : Byte) (s : State) : ∃ t, prefixOp op2 s = .next t := by
  unfold prefixOp
  cases Target8.ofCode (fieldZ op2) with
  | reg | atHL => split <;> exact ⟨_, rfl⟩

/-- A conditional row and HALT complete in both branches; every other defined row ends by `finish`. -/
theorem exec_completes (i : Instr) (s : State) (h : ∀ b : IllegalByte, i ≠ .illegal b) : ∃ t, exec i s = .next t := by
  cases i with
  | illegal_d3 => exact (h .xD3 rfl).elim
  | illegal_db => exact (h .xDB rfl).elim
  | illegal_dd => exact (h .xDD rfl).elim
  | illegal_e3 => exact (h .xE3 rfl).elim
  | illegal_e4 => exact (h .xE4 rfl).elim
  | illegal_eb => exact (h .xEB rfl).elim
  | illegal_ec => exact (h .xEC rfl).elim
  | illegal_ed => exact (h .xED rfl).elim
  | illegal_f4 => exact (h .xF4 rfl).elim
  | illegal_fc => exact (h .xFC rfl).elim
  | illegal_fd => exact (h .xFD rfl).elim
  | jp_nz_n16 | jp_z_n16 | jp_nc_n16 | jp_c_n16 | jr_nz_e8 | jr_z_e8 | jr_nc_e8 | jr_c_e8 | call_nz_n16 | call_z_n16
  | call_nc_n16 | call_c_n16 | ret_nz | ret_z | ret_nc | ret_c | halt =>
    exact ⟨_, (apply_ite Host.Outcome.next _ _ _).symm⟩
  | prefix_cb op2 => exact prefixOp_completes op2 s
  | _ => exact ⟨_, rfl⟩

end Sys2Proof.Machine

namespace Sys2Proof.Claims

open Sys2Proof.Machine

/-- Settles O33: the opcode byte of an undefined row by the encoding, its fault by `exec_illegal`, completion row by row. -/
theorem onlyTheElevenBytesAreUndefined : Obligations.OnlyTheElevenBytesAreUndefined := by
  refine ⟨fun b0 b1 b2 => ?_, fun b0 b1 b2 b s h => ?_, exec_completes⟩
  · simp only [decodeBytes_eq_illegal_iff, IllegalByte.exists_byte_iff]
  · obtain rfl := (decodeBytes_eq_illegal_iff b0 b1 b2 b).1 h
    rw [h, exec_illegal]
    exact ⟨s.lockedAfter b.byte, rfl, fetched_pc s 1⟩

end Sys2Proof.Claims
end

section
/-! PROOFS. The byte loads and stores (40_load8.md): what an instruction leaves that has fetched its bytes and put a byte into a
register, or into memory, or has stepped HL besides; the rows are instances. -/

namespace Sys2Proof.Machine

/-- The address of the `LDH` rows as a number (G12). -/
theorem highAddr_eq (off : Byte) : highAddr off = BitVec.ofNat 16 (0xFF00 + off.toNat) := by
  rw [BitVec.ofNat_add, BitVec.ofNat_toNat]
  rfl

end Sys2Proof.Machine

namespace Sys2Proof.Claims

open Sys2Proof.Machine

section
variable {i : Instr} {s : State} {k : OpKey} {len : Nat} {v : Byte}

/-- A row that fetches its bytes and writes one register. -/
theorem exec_spec_of_setReg {dst : Reg8} (run : exec i s = ((s.fetched len).setReg dst v).finish k true) :
    ∃ t, exec i s = .next t ∧ t.reg dst = v ∧ t.cpu.f = s.cpu.f ∧ RegisterFrame len [dst] s t := by
  rw [State.finish_eq] at run
  have self := (s.fetched len).reg_setReg_self dst v
  have others := fun r => (s.fetched len).reg_setReg_ne dst r v
  obtain ⟨c, hc, hf, hsp, hpc, hime, hpending, hhalted, hbug, hlocked⟩ := (s.fetched len).setReg_eq dst v
  rw [hc] at run self others
  exact ⟨_, run, self, hf,
    { regs := fun r hr => others r fun h => hr (List.mem_singleton.2 h)
      sp := hsp
      pc := hpc.trans (fetched_pc s len)
      hidden := ⟨hime, hpending, hhalted, hlocked, hbug⟩
      stored := nothingStored_of_sameOutsideCpu rfl }⟩

/-- A row that fetches its bytes and writes A. -/
theorem exec_spec_of_setA (run : exec i s = ((s.fetched len).setA v).finish k true) :
    ∃ t, exec i s = .next t ∧ t.cpu.a = v ∧ t.cpu.f = s.cpu.f ∧ RegisterFrame len [.a] s t :=
  exec_spec_of_setReg (dst := .a) run

/-- `LD A,(HL+)` and `LD A,(HL-)`. -/
theorem exec_spec_of_loadAAtHLStep {delta : Word} (run : exec i s = loadAAtHLStep k delta s) :
    ∃ t, exec i s = .next t ∧ t.cpu.a = s.read s.hl ∧ t.hl = s.hl + delta ∧ t.cpu.f = s.cpu.f ∧
      RegisterFrame 1 [.a, .h, .l] s t := by
  rw [loadAAtHLStep, State.finish_eq] at run
  exact ⟨_, run, rfl, wordOf_hiByte_loByte _, rfl,
    { regs := fun r hr => by
        cases r with
        | b | c | d | e => rfl
        | a | h | l => simp at hr
      sp := rfl
      pc := fetched_pc s 1
      hidden := ⟨rfl, rfl, rfl, rfl, rfl⟩
      stored := nothingStored_of_sameOutsideCpu rfl }⟩

/-- A row that fetches its bytes and stores one byte. -/
theorem exec_spec_of_write {a : Word} (run : exec i s = ((s.fetched len).write a v).finish k true) :
    ∃ t, exec i s = .next t ∧ Stores s t a v ∧ t.cpu.sp = s.cpu.sp ∧ StoreFrame len [] s t := by
  rw [State.write_fetched, State.finish_eq] at run
  exact ⟨_, run, stores_of_sameOutsideCpu rfl, rfl, storeFrame_of_cpu rfl⟩

/-- `LD (HL+),A` and `LD (HL-),A`. -/
theorem exec_spec_of_storeAAtHLStep {delta : Word} (run : exec i s = storeAAtHLStep k delta s) :
    ∃ t, exec i s = .next t ∧ Stores s t s.hl s.cpu.a ∧ t.hl = s.hl + delta ∧ t.cpu.sp = s.cpu.sp ∧
      StoreFrame 1 [.h, .l] s t := by
  rw [storeAAtHLStep, State.write_fetched, State.finish_eq] at run
  exact ⟨_, run, stores_of_sameOutsideCpu rfl, wordOf_hiByte_loByte _, rfl,
    { regs := fun r hr => by
        cases r with
        | a | b | c | d | e => rfl
        | h | l => simp at hr
      f := rfl
      pc := fetched_pc s 1
      hidden := ⟨rfl, rfl, rfl, rfl, rfl⟩ }⟩

end

/-- Settles O12: every row but HL+ and HL- is a register written after the fetches. -/
theorem byteLoads : Obligations.ByteLoads := by
  unfold Obligations.ByteLoads
  simp only [← highAddr_eq, BitVec.sub_eq_add_neg]
  exact ⟨fun s => ⟨exec_spec_of_setA rfl, exec_spec_of_setA rfl, fun nn => exec_spec_of_setA rfl,
      exec_spec_of_setA rfl, fun n => exec_spec_of_setA rfl, exec_spec_of_loadAAtHLStep rfl,
      exec_spec_of_loadAAtHLStep rfl⟩,
    fun dst src s => exec_spec_of_setReg (exec_ldRegReg s dst src),
    fun dst n s => exec_spec_of_setReg (exec_ldRegImm s dst n),
    fun dst s => exec_spec_of_setReg (exec_ldRegMem s dst)⟩

/-- Settles O13: every row but HL+ and HL- is one write after the fetches. -/
theorem byteStores : Obligations.ByteStores := by
  unfold Obligations.ByteStores
  simp only [← highAddr_eq, BitVec.sub_eq_add_neg]
  exact fun s => ⟨fun src => exec_spec_of_write (exec_ldMemReg s src), fun n => exec_spec_of_write rfl,
    exec_spec_of_write rfl, exec_spec_of_write rfl, fun nn => exec_spec_of_write rfl, exec_spec_of_write rfl,
    fun n => exec_spec_of_write rfl, exec_spec_of_storeAAtHLStep rfl, exec_spec_of_storeAAtHLStep rfl⟩

end Sys2Proof.Claims
end

section
/-! PROOFS. The 16-bit loads, and POP undoing PUSH (41_load16_stack.md): a pair written after the fetches, the sum `SP+e` in
numbers, and what two adjacent writes to plain RAM leave readable. -/

namespace Sys2Proof.Machine

open Sys2Proof.Claims

/-! ### Words, bytes and the pairs `rp` -/

/-- Equal words have equal halves. -/
theorem wordOf_inj {hi lo hi' lo' : Byte} : wordOf hi lo = wordOf hi' lo' ↔ hi = hi' ∧ lo = lo' := by
  refine ⟨fun h => ⟨?_, ?_⟩, fun ⟨hhi, hlo⟩ => hhi ▸ hlo ▸ rfl⟩
  · simpa using congrArg operandHi h
  · simpa using congrArg operandLo h

/-- Masking F's low nibble changes nothing where that nibble is 0 already (R22). -/
theorem masked_of_nibble_zero {f : Byte} (h : f &&& 0x0F#8 = 0x00#8) : f &&& 0xF0#8 = f := by
  calc f &&& 0xF0#8 = (f &&& 0x0F#8) ||| (f &&& 0xF0#8) := by rw [h, BitVec.zero_or]
    _ = f &&& BitVec.allOnes 8 := BitVec.and_or_distrib_left.symm
    _ = f := BitVec.and_allOnes

/-- AF as a word masked likewise. -/
theorem State.af_masked {s : State} (h : s.cpu.f &&& 0x0F#8 = 0x00#8) : s.af &&& 0xFFF0#16 = s.af := by
  have halves : hiByte s.af = s.cpu.a ∧ loByte s.af = s.cpu.f := wordOf_inj.1 (wordOf_hiByte_loByte s.af)
  rw [← wordOf_hiByte_loByte_masked, halves.1, halves.2, masked_of_nibble_zero h]
  rfl

section
variable (s : State)

/-- Writing a pair of `rp` leaves the others. -/
theorem State.pair_setPair_ne {p q : RegPair} (w : Word) (h : q ≠ p) : (s.setPair p w).pair q = s.pair q := by
  cases p <;> cases q <;> first | rfl | exact absurd rfl h

/-- Writing a pair of `rp` changes only the CPU, and there neither A, F, PC nor a hidden bit. -/
theorem State.setPair_eq (p : RegPair) (w : Word) :
    ∃ c : Cpu, s.setPair p w = { s with cpu := c } ∧ c.a = s.cpu.a ∧ c.f = s.cpu.f ∧ c.pc = s.cpu.pc ∧
      c.ime = s.cpu.ime ∧ c.pendingIme = s.cpu.pendingIme ∧ c.halted = s.cpu.halted ∧ c.haltBug = s.cpu.haltBug ∧
      c.locked = s.cpu.locked := by
  cases p <;> exact ⟨_, rfl, rfl, rfl, rfl, rfl, rfl, rfl, rfl, rfl⟩

end

/-! ### `AddSPSigned` in numbers (R294) -/

section
variable (sp : Word) (e : Byte)

theorem addSpSigned_res_toNat : ((addSpSigned sp e).res.toNat : Int) = (sp.toNat + e.toInt) % 65536 := by
  have sum : (addSpSigned sp e).res.toNat = (sp.toNat + (e.toInt % 65536).toNat) % 65536 := by
    change (sp + BitVec.ofInt 16 e.toInt).toNat = _
    rw [BitVec.toNat_add, BitVec.toNat_ofInt]
    rfl
  omega

theorem addSpSigned_h : (addSpSigned sp e).h = decide (15 < sp.toNat % 16 + e.toNat % 16) := by
  have hsp : (sp &&& 0x000F#16).toNat = sp.toNat % 16 := Nat.and_two_pow_sub_one_eq_mod sp.toNat 4
  have he : (e &&& 0x0F#8).toNat = e.toNat % 16 := Nat.and_two_pow_sub_one_eq_mod e.toNat 4
  rw [addSpSigned, hsp, he]

theorem addSpSigned_c : (addSpSigned sp e).c = decide (255 < sp.toNat % 256 + e.toNat) := by
  have hsp : (sp &&& 0x00FF#16).toNat = sp.toNat % 256 := Nat.and_two_pow_sub_one_eq_mod sp.toNat 8
  rw [addSpSigned, hsp]

end

/-! ### Writes to plain RAM -/

section
variable {s : State} {a : Word}

/-- Plain RAM lies above the cartridge image and outside the I/O registers (R71). -/
theorem ramAt_addr (h : ramAt s a = true) : 0x8000 ≤ a.toNat ∧ (a.toNat < 0xFF00 ∨ 0xFF80 ≤ a.toNat) := by
  have range := regionOf_spec a
  unfold ramAt at h
  cases hr : regionOf a with
  | romFixed _ | romBanked _ | unused | io _ => simp [hr] at h
  | vram _ | extRam _ | wram _ | oam _ | hram _ | ie =>
    rw [hr] at range
    dsimp only at range
    omega

/-- A write to plain RAM does not touch the next address, its echo included. -/
theorem touches_succ_of_ramAt (h : ramAt s a = true) : touches a (a + 1#16) = false := by
  have haddr := ramAt_addr h
  have hsucc : (a + 1#16).toNat = (a.toNat + 1) % 65536 := BitVec.toNat_add a 1#16
  unfold touches
  dsimp only
  rw [hsucc, if_neg (by omega), if_neg (by omega), if_neg (by omega)]
  split_ifs <;> rw [decide_eq_false_iff_not] <;> omega

/-- A write to plain RAM changes memory arrays and IE alone, nothing that says where RAM is. -/
theorem ramAt_write (h : ramAt s a = true) (v : Byte) (b : Word) : ramAt (s.write a v) b = ramAt s b := by
  unfold ramAt at h
  unfold State.write
  cases hr : regionOf a with
  | romFixed _ | romBanked _ | unused | io _ => simp [hr] at h
  | vram _ | extRam _ | oam _ => dsimp only; split <;> rfl
  | wram _ | hram _ | ie => rfl

end

end Sys2Proof.Machine

namespace Sys2Proof.Claims

open Sys2Proof.Machine

section
variable {s t u : State} {i : Instr} {k : OpKey} {len : Nat}

/-- The flags of a state whose F is four flags packed. -/
theorem flagsAre_of_packFlags {z n h c : Bool} (hf : t.cpu.f = packFlags z n h c) : FlagsAre t z n h c where
  z := by rw [State.flagZ, hf]; exact packFlags_z z n h c
  n := by rw [State.flagN, hf]; exact packFlags_n z n h c
  h := by rw [State.flagH, hf]; exact packFlags_h z n h c
  c := by rw [State.flagC, hf]; exact packFlags_c z n h c
  rest := by rw [hf]; exact packFlags_nibble z n h c

/-! ### The loads of a pair -/

/-- A row that fetches its bytes and writes one pair of `rp`. -/
theorem exec_spec_of_setPair {p : RegPair} {w : Word} (run : exec i s = ((s.fetched len).setPair p w).finish k true) :
    ∃ t, exec i s = .next t ∧ t.pair p = w ∧ (∀ q : RegPair, q ≠ p → t.pair q = s.pair q) ∧ t.cpu.a = s.cpu.a ∧
      t.cpu.f = s.cpu.f ∧ t.cpu.pc = pcAfter s len ∧ HiddenKept s t ∧ NothingStored s t := by
  rw [State.finish_eq] at run
  have self := (s.fetched len).pair_setPair_self p w
  have others := fun q => (s.fetched len).pair_setPair_ne (p := p) (q := q) w
  obtain ⟨c, hc, ha, hf, hpc, hime, hpending, hhalted, hbug, hlocked⟩ := (s.fetched len).setPair_eq p w
  rw [hc] at run self others
  exact ⟨_, run, self, others, ha, hf, hpc.trans (fetched_pc s len), ⟨hime, hpending, hhalted, hlocked, hbug⟩,
    nothingStored_of_sameOutsideCpu rfl⟩

/-- `LD SP,HL` (R232). -/
theorem exec_ld_sp_hl_spec (s : State) :
    ∃ t, exec .ld_sp_hl s = .next t ∧ t.cpu.sp = s.hl ∧ RegsKept [] s t ∧ t.cpu.f = s.cpu.f ∧ t.cpu.pc = pcAfter s 1 ∧
      HiddenKept s t ∧ NothingStored s t := by
  have run : exec .ld_sp_hl s = loadSpHl (.base 0xF9#8) s := rfl
  rw [loadSpHl, State.finish_eq] at run
  exact ⟨_, run, rfl, fun _ _ => rfl, rfl, fetched_pc s 1, ⟨rfl, rfl, rfl, rfl, rfl⟩, nothingStored_of_sameOutsideCpu rfl⟩

/-- `LD HL,SP+e` (R235). -/
theorem exec_ld_hl_spE8_spec (e : Byte) (s : State) :
    ∃ t, exec (.ld_hl_spE8 e) s = .next t ∧ (t.hl.toNat : Int) = (s.cpu.sp.toNat + e.toInt) % 65536 ∧
      FlagsAre t false false (decide (15 < s.cpu.sp.toNat % 16 + e.toNat % 16))
        (decide (255 < s.cpu.sp.toNat % 256 + e.toNat)) ∧
      RegisterFrame 2 [.h, .l] s t := by
  have run : exec (.ld_hl_spE8 e) s = loadHlSpOffset (.base 0xF8#8) e s := rfl
  rw [loadHlSpOffset, State.finish_eq] at run
  rw [← addSpSigned_res_toNat, ← addSpSigned_h, ← addSpSigned_c]
  exact ⟨_, run, congrArg (fun w : Word => (w.toNat : Int)) (wordOf_hiByte_loByte _),
    flagsAre_of_packFlags (packFlags_masked _ _ _ _),
    { regs := fun r hr => by
        cases r with
        | a | b | c | d | e => rfl
        | h | l => simp at hr
      sp := rfl
      pc := fetched_pc s 2
      hidden := ⟨rfl, rfl, rfl, rfl, rfl⟩
      stored := nothingStored_of_sameOutsideCpu rfl }⟩

/-- Settles O14: a pair of `rp` written after the fetches, SP, and HL with the flags of the low bytes. -/
theorem pairLoads : Obligations.PairLoads := fun s =>
  ⟨fun p nn => exec_spec_of_setPair (exec_ldPairImm s p nn), exec_ld_sp_hl_spec s, fun e => exec_ld_hl_spE8_spec e s⟩

/-! ### POP after PUSH -/

/-- The pairs of `rp2` hold every register and F. -/
theorem stackPairs_kept_iff :
    (∀ q : StackPair, t.stackPair q = s.stackPair q) ↔ RegsKept [] s t ∧ t.cpu.f = s.cpu.f := by
  constructor
  · intro h
    obtain ⟨hb, hc⟩ := wordOf_inj.1 (h .bc)
    obtain ⟨hd, he⟩ := wordOf_inj.1 (h .de)
    obtain ⟨hh, hl⟩ := wordOf_inj.1 (h .hl)
    obtain ⟨ha, hf⟩ := wordOf_inj.1 (h .af)
    exact ⟨fun r _ => by cases r <;> assumption, hf⟩
  · rintro ⟨regs, hf⟩ q
    have reg : ∀ r : Reg8, t.reg r = s.reg r := fun r => regs r List.not_mem_nil
    cases q with
    | bc => exact wordOf_inj.2 ⟨reg .b, reg .c⟩
    | de => exact wordOf_inj.2 ⟨reg .d, reg .e⟩
    | hl => exact wordOf_inj.2 ⟨reg .h, reg .l⟩
    | af => exact wordOf_inj.2 ⟨reg .a, hf⟩

/-- The word on top of the stack after a push onto plain RAM is the one pushed (R13): the low byte's write leaves the high
byte. -/
theorem poppedWord_of_pushes {w : Word} (hhigh : ramAt s (s.cpu.sp - 1#16) = true)
    (hlow : ramAt s (s.cpu.sp - 2#16) = true) (hpush : Pushes s t w) (hsp : t.cpu.sp = s.cpu.sp - 2#16) :
    poppedWord t = w := by
  have next : s.cpu.sp - 2#16 + 1#16 = s.cpu.sp - 1#16 := by bv_omega
  have untouched : touches (s.cpu.sp - 2#16) (s.cpu.sp - 1#16) = false := next ▸ touches_succ_of_ramAt hlow
  have high : t.readAt .dataHigh (s.cpu.sp - 1#16) = hiByte w := by
    rw [State.readAt_of_sameOutsideCpu hpush.1, State.readAt_write_of_untouched untouched,
      State.readAt_write_self _ _ _ hhigh]
  have low : t.readAt .data (s.cpu.sp - 2#16) = loByte w := by
    rw [State.readAt_of_sameOutsideCpu hpush.1,
      State.readAt_write_self _ _ _ ((ramAt_write hhigh _ _).trans hlow)]
  rw [poppedWord, hsp, next, high, low, wordOf_hiByte_loByte]

end

/-- Settles O16: PUSH keeps every register, POP puts the pushed word back into its pair and keeps the others; AF loses nothing
to the mask of F. -/
theorem popReturnsWhatPushStored : Obligations.PopReturnsWhatPushStored := by
  intro p s hhigh hlow hnibble
  obtain ⟨t, push, hpush, hsp, frame⟩ := exec_push_spec p s
  obtain ⟨u, pop, hpair, hothers, hsp', -⟩ := exec_pop_spec p t
  have kept := stackPairs_kept_iff.2 ⟨frame.regs, frame.f⟩
  have pairs : ∀ q : StackPair, u.stackPair q = s.stackPair q := fun q => by
    by_cases hq : q = p
    · rw [hq, hpair, poppedWord_of_pushes hhigh hlow hpush hsp]
      split
      · next haf => subst haf; exact State.af_masked (hnibble rfl)
      · rfl
    · exact (hothers q hq).trans (kept q)
  obtain ⟨regs, hf⟩ := stackPairs_kept_iff.1 pairs
  exact ⟨t, u, push, pop, by rw [hsp', hsp, BitVec.sub_add_cancel], hf, regs⟩

end Sys2Proof.Claims
end

section
/-! PROOFS. 8-bit arithmetic and logic (42_alu8.md): the functions of the ALU in numbers, what a row leaves that writes the
four flags and then at most one register or one byte of memory, and DAA on the digits of a packed decimal byte. -/

namespace Sys2Proof.Machine

/-! ### Half carries -/

/-- The low nibble as a number. -/
theorem toNat_and_lowNibble (v : Byte) : (v &&& 0x0F#8).toNat = v.toNat % 16 :=
  Nat.and_two_pow_sub_one_eq_mod v.toNat 4

/-- Bit 4 of a byte as the last digit of its upper nibble. -/
theorem getLsbD_four (v : Byte) : v.getLsbD 4 = decide (v.toNat / 16 % 2 = 1) := Nat.testBit_eq_decide_div_mod_eq

/-- The parity of a sum. -/
theorem xor_decide_mod_two (m n : Nat) :
    (decide (m % 2 = 1) ^^ decide (n % 2 = 1)) = decide ((m + n) % 2 = 1) := by
  rcases Nat.mod_two_eq_zero_or_one m with hm | hm <;> rcases Nat.mod_two_eq_zero_or_one n with hn | hn <;>
    simp [Nat.add_mod, hm, hn]

/-- The canonical half carry is bit 4 of `a ^ b ^ res`: it is set where an odd number of the three has that bit. -/
theorem halfCarry_eq (a b res : Byte) :
    halfCarry a b res = decide ((a.toNat / 16 + b.toNat / 16 + res.toNat / 16) % 2 = 1) := by
  have bit : halfCarry a b res = (a ^^^ b ^^^ res).getLsbD 4 := by
    have masked : (a ^^^ b ^^^ res) &&& 0x10#8 = if (a ^^^ b ^^^ res).getLsbD 4 then 0x10#8 else 0#8 :=
      BitVec.and_twoPow (a ^^^ b ^^^ res) 4
    rw [halfCarry, masked]
    cases (a ^^^ b ^^^ res).getLsbD 4 <;> rfl
  rw [bit, BitVec.getLsbD_xor, BitVec.getLsbD_xor, getLsbD_four, getLsbD_four, getLsbD_four, xor_decide_mod_two,
    xor_decide_mod_two]

/-- The half carry as R250 writes it, a proposition decided. -/
theorem halfCarry_eq_decide_ne (a b res : Byte) :
    halfCarry a b res = decide ((a ^^^ b ^^^ res) &&& 0x10#8 ≠ 0x00#8) := by
  rw [halfCarry, Bool.eq_iff_iff, bne_iff_ne, decide_eq_true_eq]

/-! ### `Add8` and `Sub8` in numbers (R250, R251) -/

/-- A byte is zero where its number is. -/
theorem decide_eq_zero (v : Byte) : decide (v = 0x00#8) = decide (v.toNat = 0) :=
  decide_eq_decide.2 BitVec.toNat_inj.symm

section
variable (a b : Byte) (cin : Bool)

theorem add8_res_toNat : (add8 a b cin).res.toNat = (a.toNat + b.toNat + cin.toNat) % 256 :=
  BitVec.toNat_ofNat _ 8

theorem add8_z : (add8 a b cin).z = decide ((a.toNat + b.toNat + cin.toNat) % 256 = 0) := by
  rw [← add8_res_toNat]
  exact decide_eq_zero (add8 a b cin).res

theorem add8_h : (add8 a b cin).h = decide (15 < a.toNat % 16 + b.toNat % 16 + cin.toNat) := by
  have res := add8_res_toNat a b cin
  have hcin := cin.toNat_le
  change halfCarry a b (add8 a b cin).res = _
  rw [halfCarry_eq, decide_eq_decide]
  omega

theorem add8_c : (add8 a b cin).c = decide (255 < a.toNat + b.toNat + cin.toNat) := rfl

theorem sub8_res_toNat :
    ((sub8 a b cin).res.toNat : Int) = ((a.toNat : Int) - (b.toNat : Int) - (cin.toNat : Int)) % 256 := by
  have res : (sub8 a b cin).res.toNat = (((a.toNat : Int) - (b.toNat : Int) - (cin.toNat : Int)) % 256).toNat :=
    BitVec.toNat_ofInt ..
  omega

theorem sub8_z :
    (sub8 a b cin).z = decide (((a.toNat : Int) - (b.toNat : Int) - (cin.toNat : Int)) % 256 = 0) := by
  have zero : (sub8 a b cin).z = decide ((sub8 a b cin).res.toNat = 0) := decide_eq_zero (sub8 a b cin).res
  simpa only [← sub8_res_toNat, Int.natCast_eq_zero] using zero

theorem sub8_z_false : (sub8 a b false).z = decide (a.toNat = b.toNat) := by
  rw [sub8_z, decide_eq_decide, Bool.toNat_false]
  omega

theorem sub8_h : (sub8 a b cin).h = decide (a.toNat % 16 < b.toNat % 16 + cin.toNat) := by
  have res := sub8_res_toNat a b cin
  have hcin := cin.toNat_le
  change halfCarry a b (sub8 a b cin).res = _
  rw [halfCarry_eq, decide_eq_decide]
  omega

theorem sub8_c : (sub8 a b cin).c = decide (a.toNat < b.toNat + cin.toNat) := by
  rw [sub8, decide_eq_decide]
  omega

end

/-! ### DAA (R281) -/

/-- The two parts of DAA's adjustment do not overlap. -/
theorem daaAdjustment_toNat (low high : Bool) :
    ((if low then 0x06#8 else 0x00#8) ||| (if high then 0x60#8 else 0x00#8)).toNat =
      (if low then 6 else 0) + (if high then 0x60 else 0) := by
  cases low <;> cases high <;> rfl

section
variable (a : Byte) (h c : Bool)

/-- DAA after an addition. -/
theorem daaOut_add :
    (daaOut a false h c).1.toNat = (a.toNat + (if h = true ∨ 9 < a.toNat % 16 then 6 else 0) +
      (if c = true ∨ 0x99 < a.toNat then 0x60 else 0)) % 256 ∧
    (daaOut a false h c).2 = decide (c = true ∨ 0x99 < a.toNat) := by
  have res : (daaOut a false h c).1.toNat = (a.toNat +
      ((if h || decide (9 < (a &&& 0x0F#8).toNat) then 0x06#8 else 0x00#8) |||
        (if c || decide (0x99 < a.toNat) then 0x60#8 else 0x00#8)).toNat) % 256 := BitVec.toNat_add ..
  rw [daaAdjustment_toNat, toNat_and_lowNibble, ← Nat.add_assoc] at res
  constructor
  · simpa only [Bool.or_eq_true, decide_eq_true_eq] using res
  · simp [daaOut]

/-- DAA after a subtraction. -/
theorem daaOut_sub :
    ((daaOut a true h c).1.toNat : Int) = ((a.toNat : Int) - (if h = true then 6 else 0) -
      (if c = true then 0x60 else 0)) % 256 := by
  have res : (daaOut a true h c).1.toNat = (256 -
      ((if h then 0x06#8 else 0x00#8) ||| (if c then 0x60#8 else 0x00#8)).toNat + a.toNat) % 256 := BitVec.toNat_sub ..
  rw [daaAdjustment_toNat] at res
  split_ifs at res ⊢ <;> omega

end

/-! ### DAA on packed decimal bytes -/

section
open Sys2Proof.Claims

/-- The digits of a number below 100 are the nibbles of its packed byte. -/
theorem bcd_digits {x : Nat} (hx : x < 100) :
    ∃ tens < 10, ∃ units < 10, x = 10 * tens + units ∧ (bcd x).toNat = 16 * tens + units := by
  refine ⟨x / 10, by omega, x % 10, Nat.mod_lt _ (by decide), (Nat.div_add_mod x 10).symm, ?_⟩
  rw [bcd, BitVec.toNat_ofNat]
  omega

theorem bcd_eq_zero_iff {x : Nat} (hx : x < 100) : bcd x = 0x00#8 ↔ x = 0 := by
  obtain ⟨tens, -, units, -, rfl, digits⟩ := bcd_digits hx
  rw [← BitVec.toNat_inj, digits, BitVec.toNat_ofNat]
  omega

variable {x y : Nat} (hx : x < 100) (hy : y < 100) (cin : Bool)
include hx hy

/-- DAA adjusts the units where they carry in decimal, and the tens where the whole sum does. `p`, `q` and `p'`, `q'` are the
digits of the operands, `r`, `r'` those of the result. -/
theorem daaOut_add8_bcd :
    daaOut (add8 (bcd x) (bcd y) cin).res false (add8 (bcd x) (bcd y) cin).h (add8 (bcd x) (bcd y) cin).c =
      (bcd ((x + y + cin.toNat) % 100), decide (100 ≤ x + y + cin.toNat)) := by
  obtain ⟨p, hp, q, hq, rfl, hpq⟩ := bcd_digits hx
  obtain ⟨p', hp', q', hq', rfl, hpq'⟩ := bcd_digits hy
  have res := add8_res_toNat (bcd (10 * p + q)) (bcd (10 * p' + q')) cin
  have half := add8_h (bcd (10 * p + q)) (bcd (10 * p' + q')) cin
  have carry := add8_c (bcd (10 * p + q)) (bcd (10 * p' + q')) cin
  rw [hpq, hpq'] at res half carry
  generalize add8 (bcd (10 * p + q)) (bcd (10 * p' + q')) cin = out at *
  have hcin := cin.toNat_le
  have adjustUnits : out.h = true ∨ 9 < out.res.toNat % 16 ↔ 10 ≤ q + q' + cin.toNat := by
    rw [half, decide_eq_true_eq]; omega
  have adjustTens : out.c = true ∨ 0x99 < out.res.toNat ↔ 100 ≤ 10 * p + q + (10 * p' + q') + cin.toNat := by
    rw [carry, decide_eq_true_eq]; omega
  obtain ⟨sum, high⟩ := daaOut_add out.res out.h out.c
  simp only [adjustUnits, adjustTens] at sum high
  refine Prod.ext (BitVec.eq_of_toNat_eq ?_) high
  obtain ⟨r, hr, r', hr', decimal, hrr'⟩ :=
    bcd_digits (Nat.mod_lt (10 * p + q + (10 * p' + q') + cin.toNat) (by decide : 0 < 100))
  have whole : 10 * p + q + (10 * p' + q') + cin.toNat =
      10 * r + r' + if 100 ≤ 10 * p + q + (10 * p' + q') + cin.toNat then 100 else 0 := by
    split_ifs <;> omega
  have unit : q + q' + cin.toNat = r' + if 10 ≤ q + q' + cin.toNat then 10 else 0 := by
    split_ifs at * <;> omega
  rw [sum, hrr']
  split_ifs at * <;> omega

/-- DAA adjusts the units where they borrow in decimal, and the tens where the whole difference does. The digits are named as
for the sum. -/
theorem daaOut_sub8_bcd :
    daaOut (sub8 (bcd x) (bcd y) cin).res true (sub8 (bcd x) (bcd y) cin).h (sub8 (bcd x) (bcd y) cin).c =
      (bcd ((x + 100 - y + 100 - cin.toNat) % 100), decide (x < y + cin.toNat)) := by
  obtain ⟨p, hp, q, hq, rfl, hpq⟩ := bcd_digits hx
  obtain ⟨p', hp', q', hq', rfl, hpq'⟩ := bcd_digits hy
  have res := sub8_res_toNat (bcd (10 * p + q)) (bcd (10 * p' + q')) cin
  have half := sub8_h (bcd (10 * p + q)) (bcd (10 * p' + q')) cin
  have borrow := sub8_c (bcd (10 * p + q)) (bcd (10 * p' + q')) cin
  rw [hpq, hpq'] at res half borrow
  generalize sub8 (bcd (10 * p + q)) (bcd (10 * p' + q')) cin = out at *
  have hcin := cin.toNat_le
  have adjustUnits : out.h = true ↔ q < q' + cin.toNat := by
    rw [half, decide_eq_true_eq]; omega
  have adjustTens : out.c = decide (10 * p + q < 10 * p' + q' + cin.toNat) := by
    rw [borrow, decide_eq_decide]; omega
  have diff := daaOut_sub out.res out.h out.c
  simp only [adjustUnits, adjustTens, decide_eq_true_eq] at diff
  rw [adjustTens]
  refine Prod.ext (BitVec.eq_of_toNat_eq ?_) rfl
  obtain ⟨r, hr, r', hr', decimal, hrr'⟩ :=
    bcd_digits (Nat.mod_lt (10 * p + q + 100 - (10 * p' + q') + 100 - cin.toNat) (by decide : 0 < 100))
  have whole : 10 * p + q + (if 10 * p + q < 10 * p' + q' + cin.toNat then 100 else 0) =
      10 * p' + q' + cin.toNat + (10 * r + r') := by
    split_ifs <;> omega
  have unit : q + (if q < q' + cin.toNat then 10 else 0) = q' + cin.toNat + r' := by
    split_ifs at * <;> omega
  rw [hrr']
  split_ifs at * <;> omega

end

/-! ### INC and DEC in numbers (R277, R279) -/

section
variable (s : State) (v : Byte)

theorem State.incFlags_eq : s.incFlags v =
    s.setFlags (decide (v.toNat = 255)) false (decide (v.toNat % 16 = 15)) s.flagC := by
  have z : v + 1#8 = 0x00#8 ↔ v.toNat = 255 := by bv_omega
  have h : v &&& 0x0F#8 = 0x0F#8 ↔ v.toNat % 16 = 15 := by rw [← toNat_and_lowNibble]; exact BitVec.toNat_inj.symm
  rw [State.incFlags, decide_eq_decide.2 z, decide_eq_decide.2 h]

theorem State.decFlags_eq : s.decFlags v =
    s.setFlags (decide (v.toNat = 1)) true (decide (v.toNat % 16 = 0)) s.flagC := by
  have z : v - 1#8 = 0x00#8 ↔ v.toNat = 1 := by bv_omega
  have h : v &&& 0x0F#8 = 0x00#8 ↔ v.toNat % 16 = 0 := by rw [← toNat_and_lowNibble]; exact BitVec.toNat_inj.symm
  rw [State.decFlags, decide_eq_decide.2 z, decide_eq_decide.2 h]

end

/-! ### CPL in numbers (R282) -/

theorem toNat_xor_ones (v : Byte) : (v ^^^ 0xFF#8).toNat = 255 - v.toNat := by
  have complement : v ^^^ 0xFF#8 = ~~~v := BitVec.xor_allOnes
  rw [complement]
  exact BitVec.toNat_not

end Sys2Proof.Machine

namespace Sys2Proof.Claims

open Sys2Proof.Machine

/-! ### Rows that write the four flags -/

section
variable {i : Instr} {s : State} {k : OpKey} {len : Nat} {z n h c : Bool}

/-- A row that fetches its bytes and writes the four flags. -/
theorem exec_spec_of_setFlags (run : exec i s = ((s.fetched len).setFlags z n h c).finish k true) :
    ∃ t, exec i s = .next t ∧ FlagsAre t z n h c ∧ RegisterFrame len [] s t := by
  rw [State.finish_eq] at run
  exact ⟨_, run, flagsAre_of_packFlags (packFlags_masked z n h c),
    { regs := fun r _ => by cases r <;> rfl
      sp := rfl
      pc := fetched_pc s len
      hidden := ⟨rfl, rfl, rfl, rfl, rfl⟩
      stored := nothingStored_of_sameOutsideCpu rfl }⟩

/-- A row that fetches its bytes and writes the four flags and one register. -/
theorem exec_spec_of_setFlags_setReg {dst : Reg8} {v : Byte}
    (run : exec i s = (((s.fetched len).setFlags z n h c).setReg dst v).finish k true) :
    ∃ t, exec i s = .next t ∧ t.reg dst = v ∧ FlagsAre t z n h c ∧ RegisterFrame len [dst] s t := by
  rw [State.finish_eq] at run
  have self := ((s.fetched len).setFlags z n h c).reg_setReg_self dst v
  have others := fun r => ((s.fetched len).setFlags z n h c).reg_setReg_ne dst r v
  obtain ⟨cpu, hcpu, hf, hsp, hpc, hime, hpending, hhalted, hbug, hlocked⟩ :=
    ((s.fetched len).setFlags z n h c).setReg_eq dst v
  rw [hcpu] at run self others
  exact ⟨_, run, self, flagsAre_of_packFlags (hf.trans (packFlags_masked z n h c)),
    { regs := fun r hr => (others r fun heq => hr (List.mem_singleton.2 heq)).trans (by cases r <;> rfl)
      sp := hsp
      pc := hpc.trans (fetched_pc s len)
      hidden := ⟨hime, hpending, hhalted, hlocked, hbug⟩
      stored := nothingStored_of_sameOutsideCpu rfl }⟩

/-- A row that fetches its bytes and writes the four flags and one byte of memory. -/
theorem exec_spec_of_setFlags_write {a : Word} {v : Byte}
    (run : exec i s = (((s.fetched len).setFlags z n h c).write a v).finish k true) :
    ∃ t, exec i s = .next t ∧ Stores s t a v ∧ FlagsAre t z n h c ∧ RegsKept [] s t ∧ t.cpu.sp = s.cpu.sp ∧
      t.cpu.pc = pcAfter s len ∧ HiddenKept s t := by
  have write : ((s.fetched len).setFlags z n h c).write a v =
      { s.write a v with cpu := ((s.fetched len).setFlags z n h c).cpu } := s.write_of_cpu a v _
  rw [write, State.finish_eq] at run
  exact ⟨_, run, stores_of_sameOutsideCpu rfl, flagsAre_of_packFlags (packFlags_masked z n h c),
    fun r _ => by cases r <;> rfl, rfl, fetched_pc s len, ⟨rfl, rfl, rfl, rfl, rfl⟩⟩

end

/-! ### The rows of the ALU -/

/-- The operand byte of an ALU row. -/
def AluForm.byte (s : State) : AluForm → Byte
  | .reg r => s.reg r
  | .atHL => s.read s.hl
  | .imm n => n

theorem AluForm.toNat_byte (form : AluForm) (s : State) : (form.byte s).toNat = form.operand s := by
  cases form <;> rfl

/-- An ALU row in each operand form runs its operation on the operand byte. -/
theorem exec_aluForm (op : AluOp) (form : AluForm) (s : State) :
    ∃ k, exec (form.instr op) s = ((s.fetched form.len).alu op (form.byte s)).finish k true := by
  cases form with
  | reg r => exact ⟨_, exec_aluReg s op r⟩
  | atHL => exact ⟨_, exec_aluMem s op⟩
  | imm n => exact ⟨_, exec_aluImm s op n⟩

section
variable {s : State} {form : AluForm} {op : AluOp} {out : AluOut}

/-- An ALU row but CP writes A and the four flags. -/
theorem exec_alu_spec (hop : op ≠ .cp) (hout : aluOut op s.cpu.a (form.byte s) s.flagC = out) :
    ∃ t, exec (form.instr op) s = .next t ∧ t.cpu.a = out.res ∧ FlagsAre t out.z out.n out.h out.c ∧
      RegisterFrame form.len [.a] s t := by
  obtain ⟨k, run⟩ := exec_aluForm op form s
  have written : (s.fetched form.len).alu op (form.byte s) =
      ((s.fetched form.len).setFlags out.z out.n out.h out.c).setReg .a out.res := by
    rw [← hout]
    cases op with
    | cp => exact absurd rfl hop
    | _ => rfl
  rw [written] at run
  exact exec_spec_of_setFlags_setReg run

/-- CP writes the four flags. -/
theorem exec_cp_spec :
    ∃ t, exec (form.instr .cp) s = .next t ∧
      FlagsAre t (sub8 s.cpu.a (form.byte s) false).z true (sub8 s.cpu.a (form.byte s) false).h
        (sub8 s.cpu.a (form.byte s) false).c ∧
      RegisterFrame form.len [] s t := by
  obtain ⟨k, run⟩ := exec_aluForm .cp form s
  exact exec_spec_of_setFlags run

/-- ADD and ADC in numbers. -/
theorem exec_add8_spec {cin : Bool} (hop : op ≠ .cp)
    (hout : aluOut op s.cpu.a (form.byte s) s.flagC = add8 s.cpu.a (form.byte s) cin) :
    ∃ t, exec (form.instr op) s = .next t ∧
      t.cpu.a.toNat = (s.cpu.a.toNat + (form.byte s).toNat + cin.toNat) % 256 ∧
      FlagsAre t (decide ((s.cpu.a.toNat + (form.byte s).toNat + cin.toNat) % 256 = 0)) false
        (decide (15 < s.cpu.a.toNat % 16 + (form.byte s).toNat % 16 + cin.toNat))
        (decide (255 < s.cpu.a.toNat + (form.byte s).toNat + cin.toNat)) ∧
      RegisterFrame form.len [.a] s t := by
  rw [← add8_z, ← add8_h, ← add8_res_toNat]
  obtain ⟨t, run, ha, flags, frame⟩ := exec_alu_spec hop hout
  exact ⟨t, run, congrArg BitVec.toNat ha, flags, frame⟩

/-- SUB and SBC in numbers. -/
theorem exec_sub8_spec {cin : Bool} (hop : op ≠ .cp)
    (hout : aluOut op s.cpu.a (form.byte s) s.flagC = sub8 s.cpu.a (form.byte s) cin) :
    ∃ t, exec (form.instr op) s = .next t ∧
      (t.cpu.a.toNat : Int) = ((s.cpu.a.toNat : Int) - ((form.byte s).toNat : Int) - (cin.toNat : Int)) % 256 ∧
      FlagsAre t (sub8 s.cpu.a (form.byte s) cin).z true
        (decide (s.cpu.a.toNat % 16 < (form.byte s).toNat % 16 + cin.toNat))
        (decide (s.cpu.a.toNat < (form.byte s).toNat + cin.toNat)) ∧
      RegisterFrame form.len [.a] s t := by
  rw [← sub8_h, ← sub8_c, ← sub8_res_toNat]
  obtain ⟨t, run, ha, flags, frame⟩ := exec_alu_spec hop hout
  exact ⟨t, run, congrArg (fun v : Byte => (v.toNat : Int)) ha, flags, frame⟩

/-- AND, XOR and OR: a result made bit by bit, Z from it, N and C zero. -/
theorem exec_logic_spec {res : Byte} {h : Bool} {bit : Bool → Bool → Bool} (hop : op ≠ .cp)
    (hout : aluOut op s.cpu.a (form.byte s) s.flagC =
      { res := res, z := decide (res = 0x00#8), n := false, h := h, c := false })
    (hbit : ∀ k < 8, res.getLsbD k = bit (s.cpu.a.getLsbD k) ((form.byte s).getLsbD k)) :
    ∃ t, exec (form.instr op) s = .next t ∧
      (∀ k < 8, t.cpu.a.getLsbD k = bit (s.cpu.a.getLsbD k) ((form.operand s).testBit k)) ∧
      FlagsAre t (decide (t.cpu.a = 0x00#8)) false h false ∧ RegisterFrame form.len [.a] s t := by
  obtain ⟨t, run, rfl, flags, frame⟩ := exec_alu_spec hop hout
  rw [← form.toNat_byte]
  exact ⟨t, run, hbit, flags, frame⟩

end

/-- `DAA` (R281). -/
theorem exec_daa_spec (s : State) :
    ∃ t, exec .daa s = .next t ∧ t.cpu.a = (daaOut s.cpu.a s.flagN s.flagH s.flagC).1 ∧
      FlagsAre t (decide (t.cpu.a = 0x00#8)) s.flagN false (daaOut s.cpu.a s.flagN s.flagH s.flagC).2 ∧
      RegisterFrame 1 [.a] s t := by
  have run : exec .daa s = daaOp (.base 0x27#8) s := rfl
  obtain ⟨t, run, ha, flags, frame⟩ := exec_spec_of_setFlags_setReg (dst := .a) run
  exact ⟨t, run, ha, (show t.cpu.a = _ from ha) ▸ flags, frame⟩

/-- Settles O17: the half carry of `Add8` in its two forms, the others by definition. -/
theorem addFunctionOfTheAlu : Obligations.AddFunctionOfTheAlu := fun a b cin =>
  ⟨add8_res_toNat a b cin, add8_z a b cin, rfl, add8_h a b cin, halfCarry_eq_decide_ne .., add8_c a b cin⟩

/-- Settles O18: ADC is `Add8` with the old carry, ADD with none. -/
theorem addAndAddWithCarry : Obligations.AddAndAddWithCarry := by
  intro form s
  rw [← form.toNat_byte]
  exact ⟨exec_add8_spec (op := .add) (cin := false) nofun rfl, exec_add8_spec (op := .adc) nofun rfl⟩

/-- Settles O19: SBC is `Sub8` with the old carry, SUB and CP with none. -/
theorem subtractAndCompare : Obligations.SubtractAndCompare := by
  intro form s
  have sub := exec_sub8_spec (s := s) (form := form) (op := .sub) (cin := false) nofun rfl
  have sbc := exec_sub8_spec (s := s) (form := form) (op := .sbc) nofun rfl
  have cp := exec_cp_spec (s := s) (form := form)
  rw [sub8_z_false, Bool.toNat_false, Int.natCast_zero, Int.sub_zero] at sub
  rw [sub8_z] at sbc
  rw [sub8_z_false, sub8_h, sub8_c] at cp
  rw [← form.toNat_byte]
  exact ⟨sub, sbc, cp⟩

/-- Settles O20: the bits of `&`, `^` and `|`. -/
theorem logicOperations : Obligations.LogicOperations := fun _ _ =>
  ⟨exec_logic_spec (op := .and) (bit := (· && ·)) nofun rfl fun _ _ => BitVec.getLsbD_and,
    exec_logic_spec (op := .xor) (bit := (· != ·)) nofun rfl fun _ _ => BitVec.getLsbD_xor,
    exec_logic_spec (op := .or) (bit := (· || ·)) nofun rfl fun _ _ => BitVec.getLsbD_or⟩

/-- Settles O21: the flags of INC and DEC in numbers, and the result in the register or at HL. -/
theorem incrementAndDecrement : Obligations.IncrementAndDecrement := by
  refine fun s => ⟨fun r => ?incReg, fun r => ?decReg, ?incMem, ?decMem⟩
  case incReg =>
    have run := exec_incReg s r
    rw [incReg, State.incFlags_eq] at run
    obtain ⟨t, run, hr, kept⟩ := exec_spec_of_setFlags_setReg run
    exact ⟨t, run, (congrArg BitVec.toNat hr).trans (BitVec.toNat_add ..), kept⟩
  case decReg =>
    have run := exec_decReg s r
    rw [decReg, State.decFlags_eq] at run
    obtain ⟨t, run, hr, kept⟩ := exec_spec_of_setFlags_setReg run
    exact ⟨t, run, (congrArg BitVec.toNat hr).trans (BitVec.toNat_sub' ..), kept⟩
  case incMem =>
    have run : exec .inc_atHL s = incMem (.base 0x34#8) s := rfl
    rw [incMem, State.incFlags_eq] at run
    obtain ⟨t, run, stored, kept⟩ := exec_spec_of_setFlags_write run
    exact ⟨t, _, run, stored, BitVec.toNat_add .., kept⟩
  case decMem =>
    have run : exec .dec_atHL s = decMem (.base 0x35#8) s := rfl
    rw [decMem, State.decFlags_eq] at run
    obtain ⟨t, run, stored, kept⟩ := exec_spec_of_setFlags_write run
    exact ⟨t, _, run, stored, BitVec.toNat_sub' .., kept⟩

/-- Settles O22: DAA in its two directions by N, and the three rows that only complement or set. -/
theorem accumulatorAdjustments : Obligations.AccumulatorAdjustments := by
  refine fun s => ⟨fun hn => ?add, fun hn => ?sub, ?cpl, exec_spec_of_setFlags rfl, exec_spec_of_setFlags rfl⟩
  case add =>
    obtain ⟨t, run, ha, flags, frame⟩ := exec_daa_spec s
    obtain ⟨res, carry⟩ := daaOut_add s.cpu.a s.flagH s.flagC
    rw [hn] at ha flags
    rw [carry] at flags
    exact ⟨t, run, ha ▸ res, flags, frame⟩
  case sub =>
    obtain ⟨t, run, ha, flags, frame⟩ := exec_daa_spec s
    rw [hn] at ha flags
    exact ⟨t, run, ha ▸ daaOut_sub .., flags, frame⟩
  case cpl =>
    have run : exec .cpl s = cplOp (.base 0x2F#8) s := rfl
    obtain ⟨t, run, ha, kept⟩ := exec_spec_of_setFlags_setReg (dst := .a) run
    exact ⟨t, run, (congrArg BitVec.toNat ha).trans (toNat_xor_ones _), kept⟩

/-- An ALU row and then DAA, where DAA makes a packed decimal byte of the row's result. -/
theorem exec_alu_daa_spec {s : State} {form : AluForm} {op : AluOp} {out : AluOut} {x : Nat} {carry : Bool}
    (hop : op ≠ .cp) (hout : aluOut op s.cpu.a (form.byte s) s.flagC = out) (hx : x < 100)
    (hdaa : daaOut out.res out.n out.h out.c = (bcd x, carry)) :
    ∃ t u, exec (form.instr op) s = .next t ∧ exec .daa t = .next u ∧ u.cpu.a = bcd x ∧ u.flagC = carry ∧
      u.flagZ = decide (x = 0) := by
  obtain ⟨t, run, ha, flags, -⟩ := exec_alu_spec hop hout
  obtain ⟨u, adjust, hua, uflags, -⟩ := exec_daa_spec t
  rw [ha, flags.n, flags.h, flags.c, hdaa] at hua uflags
  refine ⟨t, u, run, adjust, hua, uflags.c, ?_⟩
  rw [uflags.z, hua, decide_eq_decide]
  exact bcd_eq_zero_iff hx

/-- Settles O23: DAA restores the decimal digits after `Add8` and `Sub8`. -/
theorem daaMakesAdditionAndSubtractionDecimal : Obligations.DaaMakesAdditionAndSubtractionDecimal := by
  intro s x y hx hy ha hb
  have adc : aluOut .adc s.cpu.a ((AluForm.reg .b).byte s) s.flagC = add8 (bcd x) (bcd y) s.flagC := by
    rw [← ha, ← hb]; rfl
  have sbc : aluOut .sbc s.cpu.a ((AluForm.reg .b).byte s) s.flagC = sub8 (bcd x) (bcd y) s.flagC := by
    rw [← ha, ← hb]; rfl
  exact ⟨exec_alu_daa_spec (op := .adc) nofun adc (Nat.mod_lt _ (by decide)) (daaOut_add8_bcd hx hy s.flagC),
    exec_alu_daa_spec (op := .sbc) nofun sbc (Nat.mod_lt _ (by decide)) (daaOut_sub8_bcd hx hy s.flagC)⟩

end Sys2Proof.Claims
end

section
/-! PROOFS. 16-bit arithmetic (43_alu16.md): the function of `ADD HL,rr` in numbers, and the rows that write HL or SP and the
four flags. INC and DEC of a pair write one pair of `rp`, as the loads of a pair do. -/

namespace Sys2Proof.Machine

/-! ### `ADD HL,rr` in numbers (R290) -/

/-- The low twelve bits as a number. -/
theorem toNat_and_lowTwelve (w : Word) : (w &&& 0x0FFF#16).toNat = w.toNat % 4096 :=
  Nat.and_two_pow_sub_one_eq_mod w.toNat 12

section
variable (a b : Word)

theorem addWord_res_toNat : (addWord a b).res.toNat = (a.toNat + b.toNat) % 65536 := BitVec.toNat_ofNat ..

theorem addWord_h : (addWord a b).h = decide (4095 < a.toNat % 4096 + b.toNat % 4096) := by
  rw [← toNat_and_lowTwelve, ← toNat_and_lowTwelve]
  rfl

theorem addWord_c : (addWord a b).c = decide (65535 < a.toNat + b.toNat) := rfl

end

end Sys2Proof.Machine

namespace Sys2Proof.Claims

open Sys2Proof.Machine

section
variable {i : Instr} {s : State} {k : OpKey} {len : Nat} {w : Word} {z n h c : Bool}

/-- A row that fetches its bytes and writes HL and the four flags. -/
theorem exec_spec_of_setHl_setFlags (run : exec i s = (((s.fetched len).setHl w).setFlags z n h c).finish k true) :
    ∃ t, exec i s = .next t ∧ t.hl = w ∧ FlagsAre t z n h c ∧ RegisterFrame len [.h, .l] s t := by
  rw [State.finish_eq] at run
  exact ⟨_, run, wordOf_hiByte_loByte w, flagsAre_of_packFlags (packFlags_masked z n h c),
    { regs := fun r hr => by
        cases r with
        | a | b | c | d | e => rfl
        | h | l => simp at hr
      sp := rfl
      pc := fetched_pc s len
      hidden := ⟨rfl, rfl, rfl, rfl, rfl⟩
      stored := nothingStored_of_sameOutsideCpu rfl }⟩

/-- A row that fetches its bytes and writes SP and the four flags. -/
theorem exec_spec_of_setSp_setFlags (run : exec i s = (((s.fetched len).setSp w).setFlags z n h c).finish k true) :
    ∃ t, exec i s = .next t ∧ t.cpu.sp = w ∧ FlagsAre t z n h c ∧ RegsKept [] s t ∧ t.cpu.pc = pcAfter s len ∧
      HiddenKept s t ∧ NothingStored s t := by
  rw [State.finish_eq] at run
  exact ⟨_, run, rfl, flagsAre_of_packFlags (packFlags_masked z n h c), fun r _ => by cases r <;> rfl, fetched_pc s len,
    ⟨rfl, rfl, rfl, rfl, rfl⟩, nothingStored_of_sameOutsideCpu rfl⟩

end

/-- Settles O24: the sums of `ADD HL,rr` and `ADD SP,e` in numbers, and INC and DEC as the write of one pair. -/
theorem wordArithmetic : Obligations.WordArithmetic := by
  refine fun s => ⟨fun p => ?addHl, fun p => ?incPair, fun p => ?decPair, fun e => ?addSp⟩
  case addHl =>
    rw [← addWord_res_toNat, ← addWord_h, ← addWord_c]
    obtain ⟨t, run, hhl, kept⟩ := exec_spec_of_setHl_setFlags (exec_addHl s p)
    exact ⟨t, run, congrArg BitVec.toNat hhl, kept⟩
  case incPair =>
    obtain ⟨t, run, hp, kept⟩ := exec_spec_of_setPair (exec_incPair s p)
    exact ⟨t, run, (congrArg BitVec.toNat hp).trans (BitVec.toNat_add ..), kept⟩
  case decPair =>
    obtain ⟨t, run, hp, kept⟩ := exec_spec_of_setPair (exec_decPair s p)
    exact ⟨t, run, (congrArg BitVec.toNat hp).trans (BitVec.toNat_sub' ..), kept⟩
  case addSp =>
    have run : exec (.add_sp_e8 e) s = addSpOffset (.base 0xE8#8) e s := rfl
    rw [← addSpSigned_res_toNat, ← addSpSigned_h, ← addSpSigned_c]
    obtain ⟨t, run, hsp, kept⟩ := exec_spec_of_setSp_setFlags run
    exact ⟨t, run, congrArg (fun w : Word => (w.toNat : Int)) hsp, kept⟩

end Sys2Proof.Claims
end

section
/-! PROOFS. Rotates, shifts and bits (44_rotate_shift_bit.md): the function `Shift` in numbers, the bits of a byte under the
mask of RES and SET, and the row of the `cb` table that the fields of its byte make up. What the rows leave is said by the
lemmas for any row that writes the flags, one register or one byte of memory. -/

namespace Sys2Proof.Machine

open Sys2Proof.Claims

/-! ### `Shift` in numbers (R300) -/

/-- A byte shifted up and a byte that fits below it have no bit in common. -/
theorem shiftLeft_and_eq_zero_of_lt {v w : Byte} {k : Nat} (hw : w.toNat < 2 ^ k) : v <<< k &&& w = 0#8 := by
  ext i hi
  rw [BitVec.getElem_and, BitVec.getElem_shiftLeft, BitVec.getElem_zero]
  by_cases hik : i < k
  · simp [hik]
  · have high : w[i] = false := Nat.testBit_lt_two_pow (hw.trans_le (Nat.pow_le_pow_right Nat.two_pos (not_lt.1 hik)))
    simp [high]

/-- A byte shifted up over a byte that fits below it is their sum. -/
theorem toNat_shiftLeft_or_of_lt {v w : Byte} {k : Nat} (hw : w.toNat < 2 ^ k) :
    (v <<< k ||| w).toNat = v.toNat * 2 ^ k % 256 + w.toNat := by
  have disjoint := shiftLeft_and_eq_zero_of_lt (v := v) hw
  rw [← BitVec.add_eq_or_of_and_eq_zero _ _ disjoint, BitVec.toNat_add_of_and_eq_zero disjoint, BitVec.toNat_shiftLeft,
    Nat.shiftLeft_eq]

/-- The top bit alone, as SRA keeps it. -/
theorem and_topBit_eq (v : Byte) : v &&& 0x80#8 = (v >>> 7) <<< 7 := by
  ext i hi
  interval_cases i <;> simp

/-- The nibbles exchanged, as SWAP does it. -/
theorem toNat_swapNibbles (v : Byte) :
    (v.extractLsb' 0 4 ++ v.extractLsb' 4 4).toNat = v.toNat % 16 * 16 + v.toNat / 16 := by
  have low : (v.extractLsb' 0 4).toNat = v.toNat % 16 := BitVec.extractLsb'_toNat ..
  have high : (v.extractLsb' 4 4).toNat = v.toNat / 16 % 16 := by
    rw [BitVec.extractLsb'_toNat, Nat.shiftRight_eq_div_pow]
  rw [BitVec.toNat_append, ← Nat.shiftLeft_add_eq_or_of_lt (v.extractLsb' 4 4).isLt, Nat.shiftLeft_eq, low, high]
  omega

section
variable (kind : RotKind) (v : Byte) (cin : Bool)

theorem shiftRes_toNat : (shiftRes kind v cin).toNat = shiftNat kind v.toNat cin.toNat := by
  have half : (v >>> 1).toNat = v.toNat / 2 := Nat.shiftRight_eq_div_pow ..
  have top : (v >>> 7).toNat = v.toNat / 128 := Nat.shiftRight_eq_div_pow ..
  have carry : ((BitVec.ofBool cin).setWidth 8).toNat = cin.toNat := by cases cin <;> rfl
  have carry_lt := cin.toNat_lt
  cases kind <;> simp only [shiftRes, shiftNat]
  case rlc => rw [toNat_shiftLeft_or_of_lt (by omega), top]; omega
  case rrc => rw [BitVec.or_comm, toNat_shiftLeft_or_of_lt (by omega), half]; omega
  case rl => rw [toNat_shiftLeft_or_of_lt (by omega), carry, pow_one]
  case rr => rw [BitVec.or_comm, toNat_shiftLeft_or_of_lt (by omega), half, carry]; omega
  case sla => rw [BitVec.toNat_shiftLeft, Nat.shiftLeft_eq, pow_one]
  case sra => rw [BitVec.or_comm, and_topBit_eq, toNat_shiftLeft_or_of_lt (by omega), half, top]; omega
  case swap => exact toNat_swapNibbles v
  case srl => exact half

theorem shiftCarry_eq : shiftCarry kind v = shiftOut kind v.toNat := by
  have top : v.getLsbD 7 = decide (128 ≤ v.toNat) := v.msb_eq_decide
  have bottom : v.getLsbD 0 = decide (v.toNat % 2 = 1) := Nat.testBit_zero _
  cases kind with
  | rlc | rl | sla => exact top
  | rrc | rr | sra | srl => exact bottom
  | swap => rfl

end

/-! ### The bits under a mask (R325, R327) -/

section
variable (b : Fin 8) (v : Byte) {k : Nat}

theorem getLsbD_bitMask : (bitMask b).getLsbD k = decide (k = b.val) := by
  have twoPow : bitMask b = BitVec.twoPow 8 b := rfl
  simp [twoPow, eq_comm]

theorem getLsbD_and_not_bitMask (hk : k < 8) :
    (v &&& ~~~bitMask b).getLsbD k = (decide (k ≠ b.val) && v.getLsbD k) := by
  rw [BitVec.getLsbD_and, BitVec.getLsbD_not, getLsbD_bitMask, decide_eq_true hk, Bool.true_and, Bool.and_comm, decide_not]

theorem getLsbD_or_bitMask : (v ||| bitMask b).getLsbD k = (decide (k = b.val) || v.getLsbD k) := by
  rw [BitVec.getLsbD_or, getLsbD_bitMask, Bool.or_comm]

end

/-! ### The rows of the `cb` table (R170, R305) -/

/-- The row of the `cb` table that the fields x, y and z of a byte make up (R170). -/
def cbRow (op2 : Byte) : Instr :=
  let y : Fin 8 := Fin.ofNat 8 (fieldY op2)
  let t := Target8.ofCode (fieldZ op2)
  match fieldX op2 with
  | 0 => .rot (RotKind.ofCode (fieldY op2)) t
  | 1 => .bit y t
  | 2 => .res y t
  | _ => .set y t

/-- Every cell of the `cb` table holds the row of its fields. -/
theorem decodeCb_eq_cbRow (op2 : Byte) : decodeCb op2 = cbRow op2 := by
  obtain ⟨n, hn, rfl⟩ : ∃ n < 256, op2 = BitVec.ofNat 8 n := ⟨op2.toNat, op2.isLt, by simp⟩
  interval_cases n <;> rfl

section
variable (op2 : Byte)

/-- A byte is its fields x, y and z (R162). -/
theorem append_fields : op2.extractLsb' 6 2 ++ op2.extractLsb' 3 3 ++ op2.extractLsb' 0 3 = op2 := by
  have upper : op2.extractLsb' 6 2 ++ op2.extractLsb' 3 3 = op2.extractLsb' 3 5 :=
    BitVec.extractLsb'_append_extractLsb'_eq_extractLsb' rfl
  rw [upper]
  exact BitVec.extractLsb'_append_extractLsb' (len := 3) (w := 5)

theorem code_rotKind_ofCode_fieldY : (RotKind.ofCode (fieldY op2)).code = op2.extractLsb' 3 3 :=
  (by decide : ∀ y : BitVec 3, (RotKind.ofCode y.toNat).code = y) _

theorem ofNat_finOfNat_fieldY : BitVec.ofNat 3 (Fin.ofNat 8 (fieldY op2)) = op2.extractLsb' 3 3 :=
  (by decide : ∀ y : BitVec 3, BitVec.ofNat 3 (Fin.ofNat 8 y.toNat) = y) _

theorem code_target8_ofCode_fieldZ : (Target8.ofCode (fieldZ op2)).code = op2.extractLsb' 0 3 :=
  (by decide : ∀ z : BitVec 3, (Target8.ofCode z.toNat).code = z) _

/-- PREFIX CB runs that row: the row's key is made of the same fields, so it is the byte. -/
theorem prefixOp_eq_exec_cbRow (s : State) : prefixOp op2 s = exec (cbRow op2) s := by
  have key := append_fields op2
  have fields_x : ∀ x : BitVec 2, x = 0#2 ∨ x = 1#2 ∨ x = 2#2 ∨ x = 3#2 := by decide
  unfold prefixOp cbRow fieldX
  obtain hx | hx | hx | hx := fields_x (op2.extractLsb' 6 2) <;> rw [hx] at key ⊢
  · change rotTarget _ _ _ s = exec (.rot _ _) s
    rw [exec_rot, code_rotKind_ofCode_fieldY, code_target8_ofCode_fieldZ, key]
  · change bitTarget _ _ _ s = exec (.bit _ _) s
    rw [exec_bit, ofNat_finOfNat_fieldY, code_target8_ofCode_fieldZ, key]
  · change resTarget _ _ _ s = exec (.res _ _) s
    rw [exec_res, ofNat_finOfNat_fieldY, code_target8_ofCode_fieldZ, key]
  · change setTarget _ _ _ s = exec (.set _ _) s
    rw [exec_set, ofNat_finOfNat_fieldY, code_target8_ofCode_fieldZ, key]

end

end Sys2Proof.Machine

namespace Sys2Proof.Claims

open Sys2Proof.Machine

/-- Settles O25: the rows write `Shift` and its carry, which the claim has in numbers. -/
theorem rotatesAndShifts : Obligations.RotatesAndShifts := by
  intro s
  simp only [← shiftRes_toNat, ← shiftCarry_eq]
  refine ⟨fun pick hpick => ?rotA, fun kind r => ?rotReg, fun kind => ?rotMem⟩
  case rotA =>
    obtain ⟨k, run⟩ : ∃ k, exec pick.1 s = rotA k pick.2 s := by fin_cases hpick <;> exact ⟨_, rfl⟩
    obtain ⟨t, run, ha, kept⟩ := exec_spec_of_setFlags_setReg (dst := .a) run
    exact ⟨t, run, congrArg BitVec.toNat ha, kept⟩
  case rotReg =>
    obtain ⟨t, run, hr, flags, frame⟩ := exec_spec_of_setFlags_setReg (exec_rot s kind (.reg r))
    exact ⟨t, run, congrArg BitVec.toNat hr, hr ▸ flags, frame⟩
  case rotMem =>
    obtain ⟨t, run, stored, kept⟩ := exec_spec_of_setFlags_write (exec_rot s kind .atHL)
    exact ⟨t, _, run, stored, rfl, kept⟩

/-- Settles O26: BIT writes the flags, RES and SET one register or the byte at HL, under the mask of the bit. -/
theorem bitTestResetSet : Obligations.BitTestResetSet := by
  refine fun b s => ⟨fun r => exec_spec_of_setFlags (exec_bit s b (.reg r)), exec_spec_of_setFlags (exec_bit s b .atHL),
    fun r => ?resReg, ?resMem, fun r => ?setReg, ?setMem⟩
  case resReg =>
    obtain ⟨t, run, hr, kept⟩ := exec_spec_of_setReg (exec_res s b (.reg r))
    exact ⟨t, run, fun k hk => hr ▸ getLsbD_and_not_bitMask b (s.reg r) hk, kept⟩
  case resMem =>
    obtain ⟨t, run, stored, kept⟩ := exec_spec_of_write (exec_res s b .atHL)
    exact ⟨t, _, run, stored, fun k hk => getLsbD_and_not_bitMask b _ hk, kept⟩
  case setReg =>
    obtain ⟨t, run, hr, kept⟩ := exec_spec_of_setReg (exec_set s b (.reg r))
    exact ⟨t, run, fun k _ => hr ▸ getLsbD_or_bitMask b (s.reg r), kept⟩
  case setMem =>
    obtain ⟨t, run, stored, kept⟩ := exec_spec_of_write (exec_set s b .atHL)
    exact ⟨t, _, run, stored, fun k _ => getLsbD_or_bitMask b _, kept⟩

/-- Settles O27: PREFIX CB runs the row of the byte's fields, which is the row the decoder gives. -/
theorem prefixRunsTheCbRow : Obligations.PrefixRunsTheCbRow := by
  intro op2 s
  obtain ⟨t, run⟩ := prefixOp_completes op2 s
  exact ⟨t, run, by rw [decodeCb_eq_cbRow, ← prefixOp_eq_exec_cbRow, run]⟩

end Sys2Proof.Claims
end

section
/-! PROOFS. Jumps, calls, returns and restarts (45_control.md): what a row leaves that writes PC alone, SP and PC, or pushes the
address after its bytes, and the fetches alone where a condition fails; the rows are instances. -/

namespace Sys2Proof.Machine

open Sys2Proof.Claims

variable (s : State)

/-- `Cond(cc)` is the claims' test of F (R341). -/
theorem State.cond_eq_holds (cc : Cond) : s.cond cc = holds cc s := by
  cases cc with
  | nz | nc => exact (beq_false _).symm
  | z | c => rfl

/-- The word on top of the stack is the same after the fetches (R13). -/
theorem State.popValue_fetched (n : Nat) : (s.fetched n).popValue = s.popValue :=
  congrArg₂ wordOf (s.readAt_cpu (s.fetched n).cpu _ _) (s.readAt_cpu (s.fetched n).cpu _ _)

/-- The return from an interrupt after the fetches changes SP, PC and IME (R339). -/
theorem State.returnFromInterrupt_fetched (n : Nat) :
    (s.fetched n).returnFromInterrupt =
      { s with cpu := { (s.fetched n).cpu with sp := s.cpu.sp + 2#16, pc := s.popValue, ime := true } } := by
  rw [State.returnFromInterrupt, State.popValue_fetched]
  rfl

/-- The target of JR in numbers (R333): the sum of `AddSPSigned`, from the PC after the operand. -/
theorem relTarget_toNat (e : Byte) : ((relTarget s e).toNat : Int) = ((pcAfter s 2).toNat + e.toInt) % 65536 := by
  rw [relTarget, fetched_pc]
  exact addSpSigned_res_toNat (pcAfter s 2) e

/-- The target of RST in numbers (R340). -/
theorem restartTarget_toNat (y : Fin 8) : (BitVec.ofNat 16 (8 * y.val)).toNat = 8 * y.val := by
  rw [BitVec.toNat_ofNat, Nat.mod_eq_of_lt (by omega)]

end Sys2Proof.Machine

namespace Sys2Proof.Claims

open Sys2Proof.Machine

section
variable {i : Instr} {s : State} {k : OpKey} {len : Nat} {taken : Bool} {v w : Word}

/-- A row that fetches its bytes and does no more. -/
theorem exec_spec_of_fetched (run : exec i s = (s.fetched len).finish k taken) :
    ∃ t, exec i s = .next t ∧ t.cpu.f = s.cpu.f ∧ RegisterFrame len [] s t := by
  rw [State.finish_eq] at run
  exact ⟨_, run, rfl,
    { regs := fun r _ => by cases r <;> rfl
      sp := rfl
      pc := fetched_pc s len
      hidden := ⟨rfl, rfl, rfl, rfl, rfl⟩
      stored := nothingStored_of_sameOutsideCpu rfl }⟩

/-- A row that fetches its bytes and writes SP and PC. -/
theorem exec_spec_of_setSp_setPc (run : exec i s = (((s.fetched len).setSp v).setPc w).finish k taken) :
    ∃ t, exec i s = .next t ∧ t.cpu.pc = w ∧ t.cpu.sp = v ∧ t.cpu.f = s.cpu.f ∧ RegsKept [] s t ∧ HiddenKept s t ∧
      NothingStored s t := by
  rw [State.finish_eq] at run
  exact ⟨_, run, rfl, rfl, rfl, fun r _ => by cases r <;> rfl, ⟨rfl, rfl, rfl, rfl, rfl⟩,
    nothingStored_of_sameOutsideCpu rfl⟩

/-- A row that fetches its bytes and writes PC: SP is written with its own value. -/
theorem exec_spec_of_setPc (run : exec i s = ((s.fetched len).setPc w).finish k taken) :
    ∃ t, exec i s = .next t ∧ t.cpu.pc = w ∧ t.cpu.f = s.cpu.f ∧ t.cpu.sp = s.cpu.sp ∧ RegsKept [] s t ∧ HiddenKept s t ∧
      NothingStored s t := by
  obtain ⟨t, run, hpc, hsp, hf, kept⟩ := exec_spec_of_setSp_setPc (v := s.cpu.sp) run
  exact ⟨t, run, hpc, hf, hsp, kept⟩

/-- A row that fetches its bytes and writes PC if the condition holds. -/
theorem exec_spec_of_setPc_if {cc : Cond}
    (run : exec i s = if s.cond cc then ((s.fetched len).setPc w).finish k true else (s.fetched len).finish k false) :
    ∃ t, exec i s = .next t ∧ t.cpu.pc = (if holds cc s then w else pcAfter s len) ∧ t.cpu.f = s.cpu.f ∧
      t.cpu.sp = s.cpu.sp ∧ RegsKept [] s t ∧ HiddenKept s t ∧ NothingStored s t := by
  rw [State.cond_eq_holds] at run
  cases h : holds cc s with
  | true =>
    rw [h] at run
    exact exec_spec_of_setPc run
  | false =>
    rw [h] at run
    obtain ⟨t, run, hf, frame⟩ := exec_spec_of_fetched run
    exact ⟨t, run, frame.pc, hf, frame.sp, frame.regs, frame.hidden, frame.stored⟩

/-- A row that calls: the address after its bytes is pushed and PC goes to the target. -/
theorem exec_spec_of_callTo (run : exec i s = (s.callTo len w).finish k taken) :
    ∃ t, exec i s = .next t ∧ t.cpu.pc = w ∧ Pushes s t (pcAfter s len) ∧ t.cpu.sp = s.cpu.sp - 2#16 ∧
      t.cpu.f = s.cpu.f ∧ RegsKept [] s t ∧ HiddenKept s t := by
  rw [State.callTo, fetched_pc, State.push16_fetched, State.finish_eq] at run
  exact ⟨_, run, rfl, storesTwo_of_sameOutsideCpu rfl, rfl, rfl, fun r _ => by cases r <;> rfl, ⟨rfl, rfl, rfl, rfl, rfl⟩⟩

end

/-- `RET cc` (R338). -/
theorem exec_retCond_spec (cc : Cond) (s : State) :
    ∃ t, exec (.retCond cc) s = .next t ∧ t.cpu.pc = (if holds cc s then poppedWord s else pcAfter s 1) ∧
      t.cpu.sp = (if holds cc s then s.cpu.sp + 2#16 else s.cpu.sp) ∧ t.cpu.f = s.cpu.f ∧ RegsKept [] s t ∧
      HiddenKept s t ∧ NothingStored s t := by
  have run := exec_retCond s cc
  rw [returnCond, State.cond_eq_holds] at run
  cases h : holds cc s with
  | true =>
    rw [h] at run
    exact exec_spec_of_setSp_setPc run
  | false =>
    rw [h] at run
    obtain ⟨t, run, hf, frame⟩ := exec_spec_of_fetched run
    exact ⟨t, run, frame.pc, frame.sp, hf, frame.regs, frame.hidden, frame.stored⟩

/-- `RETI` (R339). -/
theorem exec_reti_spec (s : State) :
    ∃ t, exec .reti s = .next t ∧ t.cpu.pc = poppedWord s ∧ t.cpu.sp = s.cpu.sp + 2#16 ∧ t.cpu.f = s.cpu.f ∧
      t.cpu.ime = true ∧ t.cpu.pendingIme = s.cpu.pendingIme ∧ t.cpu.halted = s.cpu.halted ∧
      t.cpu.locked = s.cpu.locked ∧ t.cpu.haltBug = false ∧ RegsKept [] s t ∧ NothingStored s t := by
  have run : exec .reti s = retiOp (.base 0xD9#8) s := rfl
  rw [retiOp, State.returnFromInterrupt_fetched, State.finish_eq] at run
  exact ⟨_, run, rfl, rfl, rfl, rfl, rfl, rfl, rfl, rfl, fun r _ => by cases r <;> rfl, nothingStored_of_sameOutsideCpu rfl⟩

/-- Settles O28: every row writes PC after the fetches, the rows with a condition if it holds; JR's target in numbers. -/
theorem jumps : Obligations.Jumps := by
  refine fun s => ⟨fun nn => exec_spec_of_setPc rfl, fun cc nn => exec_spec_of_setPc_if (exec_jpCond s cc nn),
    exec_spec_of_setPc rfl, fun e => ?jr, fun cc e => ?jrCond⟩
  case jr =>
    have run : exec (.jr_e8 e) s = jumpRel (.base 0x18#8) e s := rfl
    obtain ⟨t, run, hpc, kept⟩ := exec_spec_of_setPc run
    exact ⟨t, run, hpc ▸ relTarget_toNat s e, kept⟩
  case jrCond =>
    obtain ⟨t, run, hpc, kept⟩ := exec_spec_of_setPc_if (exec_jrCond s cc e)
    refine ⟨t, run, ?_, kept⟩
    rw [hpc]
    split
    · exact relTarget_toNat s e
    · rfl

/-- Settles O29: a row taken is a call, a row not taken the fetches alone. -/
theorem callsAndRestarts : Obligations.CallsAndRestarts := by
  refine fun s => ⟨fun nn => exec_spec_of_callTo rfl, fun cc nn h => ?taken, fun cc nn h => ?untaken, fun y => ?rst⟩
  case taken =>
    have run := exec_callCond s cc nn
    rw [callCond, State.cond_eq_holds, h] at run
    exact exec_spec_of_callTo run
  case untaken =>
    have run := exec_callCond s cc nn
    rw [callCond, State.cond_eq_holds, h] at run
    exact exec_spec_of_fetched run
  case rst =>
    obtain ⟨t, run, hpc, kept⟩ := exec_spec_of_callTo (exec_rst s y)
    exact ⟨t, run, hpc ▸ restartTarget_toNat y, kept⟩

/-- Settles O30: RET, and RET cc if its condition holds, write SP and PC after the fetch; RETI writes IME besides. -/
theorem returns : Obligations.Returns := fun s =>
  ⟨exec_spec_of_setSp_setPc rfl, fun cc => exec_retCond_spec cc s, exec_reti_spec s⟩

end Sys2Proof.Claims
end

section
/-! PROOFS. The CPU step by its cases (60_exceptions.md R400, R402 to R415): the locked, the idle, the dispatching CPU and the
one that runs an instruction; the instructions of 46_system.md beside them, and the HALT bug as two such steps. -/

namespace Sys2Proof.Machine

open Sys2Proof.Claims

variable {s : State}

/-- A locked CPU raises its error again (R365). -/
theorem cpuStep_of_locked {lock : Lock} (h : s.cpu.locked = some lock) :
    s.cpuStep = .fault (.undefinedOpcode lock.byte lock.pc s) := by
  unfold State.cpuStep
  rw [h]

/-- A halted CPU with nothing pending idles (R361). -/
theorem cpuStep_of_idle (hlocked : s.cpu.locked = none) (hhalted : s.cpu.halted = true) (hpending : s.pending = 0#5) :
    s.cpuStep = .next s.idle := by
  unfold State.cpuStep
  rw [hlocked]
  exact if_pos ⟨hhalted, hpending⟩

/-- A CPU that neither is locked nor idles steps as the woken one (R415). -/
theorem cpuStep_eq_wake_cpuStep (hlocked : s.cpu.locked = none) (hpending : s.pending ≠ 0#5) :
    s.cpuStep = s.wake.cpuStep := by
  have awake : s.wake.cpu.locked = none := hlocked
  unfold State.cpuStep
  rw [hlocked, awake]
  dsimp only
  rw [if_neg fun h => hpending h.2, if_neg fun h => hpending h.2]
  rfl

/-- With IME set the lowest pending source is dispatched (R402). -/
theorem cpuStep_of_dispatch {source : IntSource} (hlocked : s.cpu.locked = none) (hime : s.cpu.ime = true)
    (hpending : s.pending ≠ 0#5) (hsource : lowestPending s.pending = some source) :
    s.cpuStep = .next (s.wake.takeInterrupt source) := by
  unfold State.cpuStep
  rw [hlocked]
  dsimp only
  rw [if_neg fun h => hpending h.2, hime, hsource]

/-- A CPU that neither is locked, idles nor dispatches runs the instruction at PC, woken (R400). -/
theorem cpuStep_of_runs (h : Runs s) : s.cpuStep = s.wake.runInstruction := by
  obtain ⟨hlocked, hawake, hundisturbed⟩ := h
  unfold State.cpuStep
  rw [hlocked]
  dsimp only
  rw [if_neg fun hidle => hawake hidle.1 hidle.2]
  cases hime : s.cpu.ime with
  | false => rfl
  | true => rw [hundisturbed hime]; rfl

/-- What a step runs that runs an instruction and completes (R400). -/
theorem cpuStep_of_exec_next {t : State} (h : Runs s) (run : exec s.nextInstr s.wake = .next t) :
    s.cpuStep = .next (t.promoteIme s.cpu.pendingIme) := by
  have run' : exec s.wake.nextInstr s.wake = .next t := run
  rw [cpuStep_of_runs h, State.runInstruction, run']
  rfl

/-- A step of the CPU that raises is a step of the machine that raises (R16). -/
theorem step_of_cpuStep_fault {r : Fault} (h : s.hostTurn.cpuStep = .fault r) : step s = .fault r := by
  unfold step State.systemStep
  rw [h]

/-- EI has no effect at the end of a step where it was not pending before and after the instruction (R364). -/
theorem State.promoteIme_of_not_pending {promote : Bool} (h : promote = false ∨ s.cpu.pendingIme = false) :
    s.promoteIme promote = s := by
  unfold State.promoteIme
  refine if_neg fun hc => ?_
  obtain ⟨hpromote, hpending⟩ := Bool.and_eq_true_iff.1 hc
  rcases h with h | h <;> simp_all

theorem State.promoteIme_of_pending (h : s.cpu.pendingIme = true) :
    s.promoteIme true = { s with cpu := { s.cpu with ime := true, pendingIme := false } } := by
  unfold State.promoteIme
  exact if_pos h

/-- The pending interrupts, bit by bit (R402). -/
theorem State.pending_getLsbD {k : Nat} (hk : k < 5) : s.pending.getLsbD k = (s.ie.getLsbD k && s.iflag.getLsbD k) := by
  unfold State.pending
  rw [BitVec.getLsbD_and, BitVec.getLsbD_extractLsb', decide_eq_true hk, Bool.true_and, Nat.zero_add]

/-- The pending interrupts in numbers (R402, D2). -/
theorem State.pending_eq_zero_iff : s.pending = 0#5 ↔ s.ie.toNat % 32 &&& s.iflag.toNat = 0 := by
  rw [← BitVec.toNat_inj, State.pending, BitVec.toNat_and, BitVec.extractLsb'_toNat, Nat.shiftRight_zero]
  rfl

theorem IntSource.index_lt (i : IntSource) : i.index < 5 := by cases i <;> decide

/-- The lowest pending source is the one whose bit is set and no lower one (R410). -/
theorem lowestPending_eq_some {pend : BitVec 5} {i : IntSource} (hi : pend.getLsbD i.index = true)
    (lower : ∀ k < i.index, pend.getLsbD k = false) : lowestPending pend = some i := by
  cases i <;> simp_all [lowestPending, IntSource.index, Nat.forall_lt_succ_right, Nat.le_one_iff_eq_zero_or_eq_one]

/-- Taking an interrupt sees nothing of the CPU but PC and SP: the push, and the CPU it leaves (R410). -/
theorem State.takeInterrupt_of_cpu (c : Cpu) (i : IntSource) :
    State.takeInterrupt { s with cpu := c } i =
      { (State.write { s with iflag := s.iflag &&& ~~~i.mask } (c.sp - 1#16) (hiByte c.pc)).write
          (c.sp - 2#16) (loByte c.pc) with
        cpu := { c with ime := false, pendingIme := false, sp := c.sp - 2#16, pc := i.vector }
        cost := 20 } :=
  congrArg (fun u : State => (u.setPc i.vector).withCost dispatchCycles)
    (State.push16_of_cpu { s with iflag := s.iflag &&& ~~~i.mask } { c with ime := false, pendingIme := false } c.pc)

theorem IntSource.vector_toNat (i : IntSource) : i.vector.toNat = 0x40 + 8 * i.index := by cases i <;> rfl

end Sys2Proof.Machine

namespace Sys2Proof.Claims

open Sys2Proof.Machine

/-- HALT (R361): it halts, or sets the HALT-bug latch where an interrupt is pending with IME clear. -/
theorem exec_halt_spec (s : State) :
    ∃ t, exec .halt s = .next t ∧
      (s.cpu.ime = true ∨ s.ie.toNat % 32 &&& s.iflag.toNat = 0 → t.cpu.halted = true ∧ t.cpu.haltBug = false) ∧
      (s.cpu.ime = false → s.ie.toNat % 32 &&& s.iflag.toNat ≠ 0 →
        t.cpu.halted = s.cpu.halted ∧ t.cpu.haltBug = true) ∧
      t.cpu.ime = s.cpu.ime ∧ t.cpu.pendingIme = s.cpu.pendingIme ∧ t.cpu.locked = s.cpu.locked ∧ t.cpu.f = s.cpu.f ∧
      t.cpu.sp = s.cpu.sp ∧ t.cpu.pc = pcAfter s 1 ∧ RegsKept [] s t ∧ NothingStored s t := by
  have run : exec .halt s = haltOp (.base 0x76#8) s := rfl
  rw [haltOp] at run
  simp only [State.finish_eq] at run
  by_cases h : s.cpu.ime = true ∨ s.pending = 0#5
  · rw [if_pos h] at run
    refine ⟨_, run, fun _ => ⟨rfl, rfl⟩, fun hime hpending => ?_, rfl, rfl, rfl, rfl, rfl, fetched_pc s 1,
      fun r _ => by cases r <;> rfl, nothingStored_of_sameOutsideCpu rfl⟩
    exact absurd (State.pending_eq_zero_iff.1 (h.resolve_left (by simp [hime]))) hpending
  · rw [if_neg h] at run
    exact ⟨_, run, fun h' => absurd (h'.imp_right State.pending_eq_zero_iff.2) h, fun _ _ => ⟨rfl, rfl⟩, rfl, rfl, rfl,
      rfl, rfl, fetched_pc s 1, fun r _ => by cases r <;> rfl, nothingStored_of_sameOutsideCpu rfl⟩

/-- Settles O31: HALT by its two cases; NOP and STOP are the fetches alone, DI and EI write one hidden bit or two. -/
theorem systemInstructions : Obligations.SystemInstructions := by
  refine ⟨exec_halt_spec, fun s => ⟨exec_spec_of_fetched rfl, fun pad => exec_spec_of_fetched rfl, ?di, ?ei⟩⟩
  case di =>
    have run : exec .di s = diOp (.base 0xF3#8) s := rfl
    rw [diOp, State.finish_eq] at run
    exact ⟨_, run, rfl, rfl, rfl, rfl, rfl, rfl, rfl, fetched_pc s 1, fun r _ => by cases r <;> rfl,
      nothingStored_of_sameOutsideCpu rfl⟩
  case ei =>
    have run : exec .ei s = eiOp (.base 0xFB#8) s := rfl
    rw [eiOp, State.finish_eq] at run
    exact ⟨_, run, rfl, rfl, rfl, rfl, rfl, rfl, rfl, fetched_pc s 1, fun r _ => by cases r <;> rfl,
      nothingStored_of_sameOutsideCpu rfl⟩

/-- Settles O32: what the raise leaves is `lockedAfter`; a locked CPU raises before it does anything else. -/
theorem undefinedOpcodesLockTheCpu : Obligations.UndefinedOpcodesLockTheCpu := by
  refine ⟨fun b s => ?_, fun s lock h => step_of_cpuStep_fault (cpuStep_of_locked h)⟩
  rw [exec_illegal, illegalOp, State.raiseUndefined, State.lockedAfter, ← fetched_pc]
  rfl

/-- Settles O38: the promotion at the end of the step, by whether EI is pending before and after the instruction. -/
theorem eiTakesEffectAfterTheNextInstruction : Obligations.EiTakesEffectAfterTheNextInstruction := by
  refine fun s t hruns run => ⟨fun hs ht => ?_, fun h => ?_⟩ <;> rw [cpuStep_of_exec_next hruns run]
  · rw [hs, State.promoteIme_of_pending ht]
  · rw [State.promoteIme_of_not_pending h]

/-- Settles O39: the idle step, and the step of the woken CPU. -/
theorem haltedCpuIdlesOrWakes : Obligations.HaltedCpuIdlesOrWakes := fun _ hlocked hhalted =>
  ⟨cpuStep_of_idle hlocked hhalted, cpuStep_eq_wake_cpuStep hlocked⟩

/-- Settles O1: the three bytes at PC decode to the step's next instruction; each answer of `exec` goes through the step. -/
theorem stepRunsTheDecodedInstruction : Obligations.StepRunsTheDecodedInstruction := by
  intro s i rest hruns hdecode _
  obtain ⟨after, hbytes⟩ := decode_three_bytes (s.hostTurn.readAt .opcode s.hostTurn.cpu.pc)
    (s.hostTurn.readAt .operand1 s.hostTurn.operandAddr) (s.hostTurn.readAt .operand2 (s.hostTurn.operandAddr + 1#16)) []
  have hi : s.hostTurn.wake.nextInstr = i := by
    rw [hdecode] at hbytes
    exact (Prod.mk.inj (Except.ok.inj hbytes)).1.symm
  have hstep := cpuStep_of_runs hruns
  rw [State.runInstruction, hi] at hstep
  refine ⟨fun t run => ?_, fun r run => ?_, fun r run => ?_⟩ <;> rw [run] at hstep
  · exact step_of_cpuStep_next hstep
  · exact step_of_cpuStep_fault hstep
  · rw [step, State.systemStep, hstep]

/-- Settles O37: the source's bit is pending and no lower one, so it is dispatched; the push then stores the two halves of PC. -/
theorem lowestPendingInterruptIsDispatched : Obligations.LowestPendingInterruptIsDispatched := by
  intro s source hlocked hime hie hif hlower
  have pending : s.pending.getLsbD source.index = true := by
    rw [State.pending_getLsbD source.index_lt, hie, hif]
    rfl
  have lowest : lowestPending s.pending = some source :=
    lowestPending_eq_some pending fun k hk => by
      rw [State.pending_getLsbD (hk.trans source.index_lt), Bool.and_eq_false_iff]
      exact hlower k hk
  have nonzero : s.pending ≠ 0#5 := fun h => by simp [h] at pending
  have taken := cpuStep_of_dispatch hlocked hime nonzero lowest
  rw [State.wake, State.takeInterrupt_of_cpu] at taken
  exact ⟨_, taken, source.vector_toNat, rfl, storesTwo_of_sameOutsideCpu rfl, rfl, rfl, rfl, hlocked, rfl, rfl,
    fun r _ => by cases r <;> rfl, rfl⟩

/-- A step that runs the byte 0x3C, INC A, with no EI pending: it adds 1 to A, and the next step runs an instruction too, from
the same bytes of memory. -/
theorem cpuStep_inc_a {s : State} (hruns : Runs s) (hop : s.readAt .opcode s.cpu.pc = 0x3C#8) (hime : s.cpu.ime = false)
    (hpending : s.cpu.pendingIme = false) :
    ∃ t, s.cpuStep = .next t ∧ t.cpu.a = s.cpu.a + 1#8 ∧ t.cpu.pc = pcAfter s 1 ∧ t.cpu.haltBug = false ∧ Runs t ∧
      t.cpu.ime = false ∧ t.cpu.pendingIme = false ∧ ∀ site a, t.readAt site a = s.readAt site a := by
  have next : s.nextInstr = .incReg .a := by rw [State.nextInstr, hop]; rfl
  obtain ⟨t, run, ha, -, frame⟩ := (incrementAndDecrement s.wake).1 .a
  rw [← next] at run
  have same : s.cpuStep = .next t := by
    rw [cpuStep_of_exec_next hruns run, State.promoteIme_of_not_pending (.inl hpending)]
  obtain ⟨kime, kpending, khalted, klocked, kbug⟩ := frame.hidden
  refine ⟨t, same, BitVec.eq_of_toNat_eq (ha.trans (BitVec.toNat_add s.cpu.a 1#8).symm), frame.pc, kbug, ⟨?_, ?_, ?_⟩,
    kime.trans hime, kpending.trans hpending, frame.stored.2⟩
  · exact klocked.trans hruns.unlocked
  · exact fun h => absurd (khalted.symm.trans h) Bool.false_ne_true
  · exact fun h => absurd ((kime.trans hime).symm.trans h) Bool.false_ne_true

/-- Settles O40: INC A twice, the first time without PC advancing, so the second step reads the same byte. -/
theorem haltBugRunsTheByteTwice : Obligations.HaltBugRunsTheByteTwice := by
  intro s hruns hbug hop hime hpending
  obtain ⟨t, hst, hta, htpc, htbug, htruns, htime, htpending, htread⟩ := cpuStep_inc_a hruns hop hime hpending
  have htpc' : t.cpu.pc = s.cpu.pc := by rw [htpc, pcAfter, hbug]; exact BitVec.add_zero _
  obtain ⟨u, htu, hua, hupc, -⟩ := cpuStep_inc_a htruns (by rw [htread, htpc', hop]) htime htpending
  refine ⟨t, u, hst, htpc', hta, htu, ?_, ?_⟩
  · rw [hupc, pcAfter, htbug, htpc']
    rfl
  · rw [hua, hta, BitVec.add_assoc]
    rfl

end Sys2Proof.Claims
end

section
/-! PROOFS. T-cycles (00_scope.md R6, R14, 70_reset_and_hazards.md R570 to R572): an instruction's cost is the CYCLES entry of its
key, which each row names; that every entry is a positive multiple of 4. -/

namespace Sys2Proof.Machine

/-! ### The cycle table -/

/-- Parameters that override nothing give the default table, as those after reset do (D31). -/
theorem cycleCost_of_default {p : Params} (h : p.cycles = []) (k : OpKey) (taken : Bool) :
    cycleCost p k taken = cycleCost Params.reset k taken := by
  unfold cycleCost cycleEntry
  rw [h]
  rfl

/-- A CYCLES entry of a legal table (R6). -/
abbrev LegalEntry (e : Nat × Nat) : Prop := (0 < e.1 ∧ e.1 % 4 = 0) ∧ 0 < e.2 ∧ e.2 % 4 = 0

/-- The default table, quadrant by quadrant (R570). -/
theorem baseCycles_legal : ∀ e ∈ baseCycles, LegalEntry (e.getD (4, 4)) := by
  have low : ∀ e ∈ cycles03, LegalEntry (e.getD (4, 4)) := by decide
  have half : ∀ e ∈ cyclesHalf, LegalEntry (e.getD (4, 4)) := by decide
  have row7 : ∀ e ∈ cycles7, LegalEntry (e.getD (4, 4)) := by decide
  have high : ∀ e ∈ cyclesCF, LegalEntry (e.getD (4, 4)) := by decide
  simp only [baseCycles, List.forall_mem_append]
  and_intros <;> assumption

theorem legalEntry_default (k : OpKey) : LegalEntry ((defaultCycles k).getD (4, 4)) := by
  cases k with
  | base op =>
    show LegalEntry ((baseCycles.getD op.toNat none).getD (4, 4))
    obtain hin | hout := lt_or_ge op.toNat baseCycles.length
    · rw [List.getD_eq_getElem _ _ hin]
      exact baseCycles_legal _ (List.getElem_mem hin)
    · rw [List.getD_eq_default _ _ hout]
      decide
  | cb op2 =>
    show LegalEntry (cbCycles op2, cbCycles op2)
    unfold cbCycles
    split_ifs <;> decide

/-- Every entry of a legal table is a positive multiple of 4 (R6). -/
theorem Params.sound.legalEntry {p : Params} (h : p.sound) (k : OpKey) : LegalEntry (cycleEntry p k) := by
  unfold cycleEntry
  cases hfind : p.cycles.find? fun entry => entry.key == k with
  | none => exact legalEntry_default k
  | some entry => exact h.2.2 entry (List.mem_of_find?_eq_some hfind)

theorem Params.sound.cycleCost_legal {p : Params} (h : p.sound) (k : OpKey) (taken : Bool) :
    0 < cycleCost p k taken ∧ cycleCost p k taken % 4 = 0 := by
  cases taken with
  | true => exact (h.legalEntry k).1
  | false => exact (h.legalEntry k).2

/-! ### The cost of an instruction -/

variable {s t : State}

/-- No instruction changes the parameters. -/
theorem exec_params {i : Instr} (run : exec i s = .next t) : t.params = s.params := by
  have leads := exec_leads i s
  rw [run] at leads
  exact (Moves.keeps_cartridge leads).2

theorem params_of_finish {i : Instr} {u : State} {k : OpKey} {taken : Bool} (run : exec i s = u.finish k taken) :
    u.params = s.params :=
  exec_params (t := u.withCost (cycleCost u.params k taken)) run

/-- HALT finishes under its key, whether it halts or sets the latch (R361). -/
theorem haltOp_finish (k : OpKey) (s : State) :
    haltOp k s = State.finish (if s.cpu.ime ∨ s.pending = 0#5 then
        { s.fetched 1 with cpu := { (s.fetched 1).cpu with halted := true } }
      else { s.fetched 1 with cpu := { (s.fetched 1).cpu with haltBug := true } }) k true :=
  (apply_ite (State.finish · k true) _ _ _).symm

/-- A shared operation ends by `finish`, or raises. -/
theorem SharedOp.finish_or_fault {r : Result} (op : SharedOp s r) :
    (∃ (u : State) (k : OpKey) (taken : Bool), r = u.finish k taken) ∨ ∃ f, r = .fault f := by
  cases op with
  | illegalOp => exact .inr ⟨_, rfl⟩
  | jumpAbsCond k cc | jumpRelCond k cc | callCond k cc | returnCond k cc =>
    cases h : s.cond cc with
    | true => exact .inl ⟨_, k, true, if_pos h⟩
    | false => exact .inl ⟨_, k, false, if_neg (by simp [h])⟩
  | haltOp k => exact .inl ⟨_, k, true, haltOp_finish k s⟩
  | rotTarget k kind t | bitTarget k b t | resTarget k b t | setTarget k b t => cases t <;> exact .inl ⟨_, _, _, rfl⟩
  | _ => exact .inl ⟨_, _, _, rfl⟩

/-- An instruction that completes costs an entry of the machine's table (R400). -/
theorem exec_cost {i : Instr} (run : exec i s = .next t) : ∃ k taken, t.cost = cycleCost s.params k taken := by
  obtain ⟨u, k, taken, h⟩ | ⟨f, h⟩ := (exec_sharedOp i s).finish_or_fault
  · rw [h, State.finish_eq] at run
    cases run
    exact ⟨k, taken, congrArg (cycleCost · k taken) (params_of_finish h)⟩
  · rw [h] at run
    nomatch run

theorem State.promoteIme_cost (promote : Bool) : (s.promoteIme promote).cost = s.cost := by
  unfold State.promoteIme
  split <;> rfl

/-- The cost of a CPU step: 4 idle, 20 for a dispatch, or an entry of the table (R400, R572). -/
theorem cpuStep_cost (h : s.cpuStep = .next t) :
    t.cost = 4 ∨ t.cost = 20 ∨ ∃ k taken, t.cost = cycleCost s.params k taken := by
  unfold State.cpuStep at h
  split at h
  · nomatch h
  · split at h
    · cases h
      exact .inl rfl
    · split at h
      · cases h
        exact .inr (.inl rfl)
      · unfold State.runInstruction at h
        split at h
        · next u run =>
          cases h
          rw [State.promoteIme_cost]
          exact .inr (.inr (exec_cost (s := s.wake) run))
        · nomatch h
        · nomatch h

/-- PREFIX CB ends by `finish` under the key of its second byte (R305). -/
theorem prefixOp_finish (op2 : Byte) (s : State) : ∃ u : State, prefixOp op2 s = u.finish (.cb op2) true := by
  unfold prefixOp
  cases Target8.ofCode (fieldZ op2) with
  | reg | atHL => split <;> exact ⟨_, rfl⟩

/-- The cost of the `cb` rows in numbers (R571). -/
theorem cbCycles_eq (op2 : Byte) :
    cbCycles op2 = if op2.toNat % 8 ≠ 6 then 8 else if op2.toNat / 64 = 1 then 12 else 16 := by
  have z : fieldZ op2 = op2.toNat % 8 := by
    unfold fieldZ
    rw [BitVec.extractLsb'_toNat, Nat.shiftRight_zero]
  have x : fieldX op2 = op2.toNat / 64 := by
    have lt := op2.isLt
    unfold fieldX
    rw [BitVec.extractLsb'_toNat, Nat.shiftRight_eq_div_pow]
    omega
  rw [cbCycles, z, x]

end Sys2Proof.Machine

namespace Sys2Proof.Claims

open Sys2Proof.Machine

section
variable {i : Instr} {s u v : State} {k : OpKey} {taken : Bool} {n m : Nat}

/-- A row that ends by `finish` costs the entry of its key in the default table. -/
theorem costs_of_finish (hcycles : s.params.cycles = []) (run : exec i s = u.finish k taken)
    (hn : cycleCost Params.reset k taken = n) : Costs s i n := by
  refine ⟨_, run.trans (State.finish_eq ..), ?_⟩
  rw [State.withCost_cost, params_of_finish run, cycleCost_of_default hcycles, hn]

/-- A conditional row costs the entry of its key, taken or not. -/
theorem costs_of_finish_cond {cc : Cond} (hcycles : s.params.cycles = [])
    (run : exec i s = if s.cond cc then u.finish k true else v.finish k false)
    (hn : cycleCost Params.reset k true = n) (hm : cycleCost Params.reset k false = m) :
    Costs s i (if holds cc s then n else m) := by
  rw [State.cond_eq_holds] at run
  cases h : holds cc s with
  | true =>
    rw [h] at run
    exact costs_of_finish hcycles run hn
  | false =>
    rw [h] at run
    exact costs_of_finish hcycles run hm

end

/-- Settles O36: 4, 20, or an entry of a legal table. -/
theorem stepCostIsAMultipleOfFour : Obligations.StepCostIsAMultipleOfFour := by
  intro s t hparams hstep
  obtain h | h | ⟨k, taken, h⟩ := cpuStep_cost hstep
  · omega
  · omega
  · exact h ▸ hparams.cycleCost_legal k taken

/-- Settles O34: the row of a byte is what PREFIX CB runs, whose key is the byte. -/
theorem cbRowsCost : Obligations.CbRowsCost := by
  intro op2 s hcycles
  obtain ⟨u, run⟩ := prefixOp_finish op2 s
  rw [prefixOp_eq_exec_cbRow, ← decodeCb_eq_cbRow] at run
  exact costs_of_finish hcycles run (cbCycles_eq op2)

/-- Settles O35: each row by the key it finishes with, whose entry is looked up. -/
theorem baseRowsCost : Obligations.BaseRowsCost := by
  refine fun s h => ⟨?bytes, ?words, ?arithmetic, ?control, costs_of_finish h rfl rfl, fun _ => costs_of_finish h rfl rfl,
    costs_of_finish h (haltOp_finish _ s) rfl, costs_of_finish h rfl rfl, costs_of_finish h rfl rfl⟩
  case bytes =>
    refine ⟨fun dst src => costs_of_finish h (exec_ldRegReg s dst src) (by cases dst <;> cases src <;> rfl),
      fun dst n => costs_of_finish h (exec_ldRegImm s dst n) (by cases dst <;> rfl),
      fun dst => costs_of_finish h (exec_ldRegMem s dst) (by cases dst <;> rfl),
      fun src => costs_of_finish h (exec_ldMemReg s src) (by cases src <;> rfl), fun _ => costs_of_finish h rfl rfl,
      fun i hi => ?_, fun _ => ⟨costs_of_finish h rfl rfl, costs_of_finish h rfl rfl⟩,
      fun _ => ⟨costs_of_finish h rfl rfl, costs_of_finish h rfl rfl⟩⟩
    fin_cases hi <;> exact costs_of_finish h rfl rfl
  case words =>
    exact ⟨fun p nn => costs_of_finish h (exec_ldPairImm s p nn) (by cases p <;> rfl), fun _ => costs_of_finish h rfl rfl,
      costs_of_finish h rfl rfl, fun _ => costs_of_finish h rfl rfl,
      fun p => costs_of_finish h (exec_push s p) (by cases p <;> rfl),
      fun p => costs_of_finish h (exec_pop s p) (by cases p <;> rfl)⟩
  case arithmetic =>
    refine ⟨fun op r => costs_of_finish h (exec_aluReg s op r) (by cases op <;> cases r <;> rfl),
      fun op => costs_of_finish h (exec_aluMem s op) (by cases op <;> rfl),
      fun op n => costs_of_finish h (exec_aluImm s op n) (by cases op <;> rfl),
      fun r => ⟨costs_of_finish h (exec_incReg s r) (by cases r <;> rfl),
        costs_of_finish h (exec_decReg s r) (by cases r <;> rfl)⟩,
      costs_of_finish h rfl rfl, costs_of_finish h rfl rfl, fun i hi => ?_,
      fun p => ⟨costs_of_finish h (exec_addHl s p) (by cases p <;> rfl),
        costs_of_finish h (exec_incPair s p) (by cases p <;> rfl),
        costs_of_finish h (exec_decPair s p) (by cases p <;> rfl)⟩,
      fun _ => costs_of_finish h rfl rfl⟩
    fin_cases hi <;> exact costs_of_finish h rfl rfl
  case control =>
    exact ⟨fun _ => costs_of_finish h rfl rfl,
      fun cc nn => costs_of_finish_cond h (exec_jpCond s cc nn) (by cases cc <;> rfl) (by cases cc <;> rfl),
      costs_of_finish h rfl rfl, fun _ => costs_of_finish h rfl rfl,
      fun cc e => costs_of_finish_cond h (exec_jrCond s cc e) (by cases cc <;> rfl) (by cases cc <;> rfl),
      fun _ => costs_of_finish h rfl rfl,
      fun cc nn => costs_of_finish_cond h (exec_callCond s cc nn) (by cases cc <;> rfl) (by cases cc <;> rfl),
      costs_of_finish h rfl rfl,
      fun cc => costs_of_finish_cond h (exec_retCond s cc) (by cases cc <;> rfl) (by cases cc <;> rfl),
      costs_of_finish h rfl rfl, fun y => costs_of_finish h (exec_rst s y) (by fin_cases y <;> rfl)⟩

end Sys2Proof.Claims
end

section
/-! PROOFS. The host's calls (21_mmu_io_mbc1.md R128, 60_exceptions.md R405): the bits they set, and reset
(70_reset_and_hazards.md R540). -/

namespace Sys2Proof.Machine

/-- The bit of a source (R403). -/
theorem IntSource.mask_getLsbD (i : IntSource) {k : Nat} (hk : k < 5) : i.mask.getLsbD k = decide (k = i.index) := by
  have all : ∀ k < 5, i.mask.getLsbD k = decide (k = i.index) := by cases i <;> decide
  exact all k hk

/-- A JOYP line, active-low: it is low when a selected row has its button pressed (R126). -/
theorem Joypad.low_getLsbD (j : Joypad) {k : Nat} (hk : k < 4) :
    j.low.getLsbD k =
      !((!j.select.getLsbD 0 && j.pressed.getLsbD k) || (!j.select.getLsbD 1 && j.pressed.getLsbD (k + 4))) := by
  have line := State.ioRead_joyp_line { State.reset with joypad := j } hk
  rwa [show State.ioRead { State.reset with joypad := j } .joyp = 0b11#2 ++ j.select ++ j.low from rfl,
    BitVec.getLsbD_append, if_pos hk] at line

/-- The joypad with a button pressed. -/
def Joypad.press (j : Joypad) (id : Fin 8) : Joypad := { j with pressed := j.pressed ||| bitMask id }

/-- The line of the button falls: its row is selected and no pressed button of the rows selected holds it low (R128, D14). -/
def Joypad.lineFalls (j : Joypad) (id : Fin 8) : Bool :=
  !j.select.getLsbD (id.val / 4) && !(!j.select.getLsbD 0 && j.pressed.getLsbD (id.val % 4)) &&
    !(!j.select.getLsbD 1 && j.pressed.getLsbD (id.val % 4 + 4))

/-- The lines that fall in a press: the button's own, if it was high and its row is selected. -/
theorem Joypad.fallen_getLsbD (j : Joypad) (id : Fin 8) {k : Nat} (hk : k < 4) :
    (j.low &&& ~~~(j.press id).low).getLsbD k = (decide (k = id.val % 4) && j.lineFalls id) := by
  rw [BitVec.getLsbD_and, BitVec.getLsbD_not, decide_eq_true hk, Bool.true_and, j.low_getLsbD hk,
    (j.press id).low_getLsbD hk]
  unfold Joypad.press Joypad.lineFalls
  simp only [getLsbD_or_bitMask]
  by_cases hline : k = id.val % 4
  · obtain ⟨hrow, hlow, hhigh⟩ | ⟨hrow, hlow, hhigh⟩ : id.val / 4 = 0 ∧ k = id.val ∧ k + 4 ≠ id.val ∨
        id.val / 4 = 1 ∧ k ≠ id.val ∧ k + 4 = id.val := by omega
    · rw [hrow, ← hline, decide_eq_true hlow, decide_eq_false hhigh]
      cases j.select.getLsbD 0 <;> cases j.select.getLsbD 1 <;> simp
    · rw [hrow, ← hline, decide_eq_true hhigh, decide_eq_false hlow]
      cases j.select.getLsbD 0 <;> cases j.select.getLsbD 1 <;> simp
  · rw [decide_eq_false hline, decide_eq_false (show k ≠ id.val by omega), decide_eq_false (show k + 4 ≠ id.val by omega)]
    simp only [Bool.false_or, Bool.not_not, Bool.false_and, Bool.not_and_self]

theorem Joypad.fallen_eq_zero_iff (j : Joypad) (id : Fin 8) :
    j.low &&& ~~~(j.press id).low = 0#4 ↔ j.lineFalls id = false := by
  constructor
  · intro h
    have line := j.fallen_getLsbD id (k := id.val % 4) (by omega)
    rw [h] at line
    simpa using line.symm
  · intro h
    refine BitVec.eq_of_getLsbD_eq fun k hk => ?_
    rw [j.fallen_getLsbD id hk, h, Bool.and_false, BitVec.getLsbD_zero]

/-- A press changes the joypad, and requests the joypad interrupt when a line falls (R128). -/
theorem State.pressButton_eq (s : State) (id : Fin 8) :
    s.pressButton id =
      { s with
        joypad := s.joypad.press id
        iflag := if s.joypad.lineFalls id then s.iflag ||| IntSource.joypad.mask else s.iflag } := by
  have falls := s.joypad.fallen_eq_zero_iff id
  show (if s.joypad.low &&& ~~~(s.joypad.press id).low = 0#4 then _ else _) = _
  cases h : s.joypad.lineFalls id with
  | false => exact if_pos (falls.2 h)
  | true => exact if_neg fun hz => by simp [falls.1 hz] at h

/-- The one tick that sets the frame latch is the end of line 143 (R463, R464, D38). -/
theorem PpuBus.tick_frameReadyLatch (draw : Nat) (vram oam : Ram) (b : PpuBus) :
    (b.tick draw vram oam).ppu.frameReadyLatch =
      (b.ppu.frameReadyLatch || decide (b.ppu.ly = 143#8 ∧ b.ppu.modeCycles = 455)) := by
  rcases b.tick_cases draw vram oam with ⟨hend, ht⟩ | ⟨hne, -, -, ht⟩ | ⟨hne, -, -, ht⟩ | ⟨hne, -, -, ht⟩
  · have line : (BitVec.ofNat 8 ((b.ppu.ly.toNat + 1) % 154) : Byte) = 144#8 ↔ b.ppu.ly = 143#8 := by bv_omega
    rw [ht, PpuBus.nextLine_ppu]
    by_cases hly : b.ppu.ly = 143#8 <;> simp [line, hly, hend]
  · simp [ht, hne, PpuBus.enterMode]
  · simp [ht, hne, PpuBus.enterMode, Ppu.renderScanline]
  · simp [ht, hne]

end Sys2Proof.Machine

namespace Sys2Proof.Claims

open Sys2Proof.Machine

/-- Settles O41: each call as one update, bit by bit. -/
theorem hostCallsChangeOnlyTheirParts : Obligations.HostCallsChangeOnlyTheirParts := by
  refine ⟨fun s i => ⟨_, rfl, fun k hk => ?request⟩,
    fun s id => ⟨_, _, s.pressButton_eq id, fun k _ => ?pressed, fun k hk => ?falls⟩,
    fun s id => ⟨_, rfl, fun k hk => ?released⟩, fun s => ⟨rfl, rfl, rfl⟩, PpuBus.tick_frameReadyLatch⟩
  case request => rw [BitVec.getLsbD_or, i.mask_getLsbD hk]
  case pressed => exact (getLsbD_or_bitMask id _).trans (Bool.or_comm ..)
  case falls =>
    rw [Bool.and_assoc, Bool.and_assoc, ← Bool.and_assoc (!_)]
    change _ = (s.iflag.getLsbD k || (decide (k = 4) && s.joypad.lineFalls id))
    cases s.joypad.lineFalls id with
    | false => simp
    | true => rw [if_pos rfl, BitVec.getLsbD_or, IntSource.mask_getLsbD _ hk, Bool.and_true]; rfl
  case released => exact (getLsbD_and_not_bitMask id _ hk).trans (Bool.and_comm ..)

/-- Settles O7: reset writes every field of these registers from its literal. -/
theorem hostResetRestoresTheDefaults : Obligations.HostResetRestoresTheDefaults := fun _ _ =>
  ⟨rfl, rfl, rfl, rfl, rfl, rfl, rfl, rfl, rfl, rfl, rfl, rfl, rfl⟩

/-- Settles O8: no array lists a cell, and the registers by evaluation. -/
theorem resetIsSound : Obligations.ResetIsSound where
  flags := by decide
  memory := ⟨Memory.ofCells_sound _ [], Memory.ofCells_sound _ [], Ram.ofCells_sound _ [], Ram.ofCells_sound _ [],
    Ram.ofCells_sound _ [], Ram.ofCells_sound _ [], Ram.ofCells_sound _ []⟩
  mbc := by decide
  ppu := Ppu.sound_reset
  timer := by decide
  params := ⟨⟨1, by decide⟩, by decide, by simp [State.reset, Params.reset]⟩

end Sys2Proof.Claims
end

section
/-! PROOFS. The devices' runs of ticks, which compose (61_ppu.md R460, 62_timer.md R522), and the Timer (R521 to R526): the ticks
up to an increment of TIMA, the increments up to the overflow, and DIV as the upper half of a counter a write resets. -/

namespace Sys2Proof.Machine

/-! ### Ticks in sequence -/

variable (b : TimerBus)

theorem TimerBus.run_add (m n : Nat) : b.run (m + n) = (b.run m).run n := by
  induction m generalizing b with
  | zero => rw [Nat.zero_add]; rfl
  | succ m ih => rw [Nat.succ_add]; exact ih b.tick

theorem TimerBus.run_succ (n : Nat) : b.run (n + 1) = (b.run n).tick := b.run_add n 1

theorem PpuBus.run_add (draw : Nat) (vram oam : Ram) (m n : Nat) (b : PpuBus) :
    b.run draw vram oam (m + n) = (b.run draw vram oam m).run draw vram oam n := by
  induction m generalizing b with
  | zero => rw [Nat.zero_add]; rfl
  | succ m ih => rw [Nat.succ_add]; exact ih (b.tick draw vram oam)

theorem PpuBus.run_succ (draw : Nat) (vram oam : Ram) (n : Nat) (b : PpuBus) :
    b.run draw vram oam (n + 1) = (b.run draw vram oam n).tick draw vram oam := PpuBus.run_add draw vram oam n 1 b

/-! ### What a tick leaves -/

@[simp] theorem TimerBus.incTima_divCounter : b.incTima.timer.divCounter = b.timer.divCounter := by
  unfold TimerBus.incTima
  split <;> rfl

/-- An increment of TIMA sets bit 2 of IF at most. -/
theorem TimerBus.incTima_iflag : ∃ d : BitVec 5, d &&& 0b11011#5 = 0#5 ∧ b.incTima.iflag = b.iflag ||| d := by
  unfold TimerBus.incTima
  split
  · exact ⟨0b00100#5, rfl, rfl⟩
  · exact ⟨0#5, rfl, (BitVec.or_zero).symm⟩

/-- So does a tick. -/
theorem TimerBus.tick_iflag : ∃ d : BitVec 5, d &&& 0b11011#5 = 0#5 ∧ b.tick.iflag = b.iflag ||| d := by
  rcases b.tick_cases with ⟨-, ht⟩ | ⟨-, -, ht⟩ | ⟨-, -, ht⟩ <;> rw [ht]
  · exact ⟨0#5, rfl, (BitVec.or_zero).symm⟩
  · exact ⟨0#5, rfl, (BitVec.or_zero).symm⟩
  · exact TimerBus.incTima_iflag _

theorem TimerBus.run_iflag (n : Nat) : ∃ d : BitVec 5, d &&& 0b11011#5 = 0#5 ∧ (b.run n).iflag = b.iflag ||| d := by
  induction n with
  | zero => exact ⟨0#5, rfl, (BitVec.or_zero).symm⟩
  | succ n ih =>
    obtain ⟨d, hd, hn⟩ := ih
    obtain ⟨e, he, ht⟩ := (b.run n).tick_iflag
    refine ⟨d ||| e, ?_, ?_⟩
    · rw [BitVec.and_comm, BitVec.and_or_distrib_left, BitVec.and_comm, hd, BitVec.and_comm, he, BitVec.or_zero]
    · rw [b.run_succ, ht, hn, BitVec.or_assoc]

/-- DIV's counter counts every tick (R522). -/
@[simp] theorem TimerBus.tick_divCounter : b.tick.timer.divCounter = b.timer.divCounter + 1#16 := by
  rcases b.tick_cases with ⟨-, ht⟩ | ⟨-, -, ht⟩ | ⟨-, -, ht⟩ <;> rw [ht]
  exact TimerBus.incTima_divCounter _

theorem TimerBus.run_divCounter (n : Nat) :
    (b.run n).timer.divCounter.toNat = (b.timer.divCounter.toNat + n) % 65536 := by
  induction n with
  | zero => exact (Nat.mod_eq_of_lt b.timer.divCounter.isLt).symm
  | succ n ih => rw [b.run_succ, TimerBus.tick_divCounter, BitVec.toNat_add, ih, Nat.mod_add_mod, Nat.add_assoc]; rfl

/-- With TAC bit 2 clear only DIV's counter moves (R521). -/
theorem TimerBus.run_disabled (h : b.timer.tac.getLsbD 2 = false) (n : Nat) :
    ∃ w : Word, b.run n = { b with timer := { b.timer with divCounter := w } } := by
  induction n with
  | zero => exact ⟨_, rfl⟩
  | succ n ih =>
    obtain ⟨w, hn⟩ := ih
    rw [b.run_succ, hn]
    obtain ⟨-, ht⟩ | ⟨hon, -⟩ | ⟨hon, -⟩ :=
      TimerBus.tick_cases { b with timer := { b.timer with divCounter := w } }
    · exact ⟨w + 1#16, ht⟩
    · exact absurd (h.symm.trans hon) Bool.false_ne_true
    · exact absurd (h.symm.trans hon) Bool.false_ne_true

/-! ### The increments of TIMA -/

theorem timerPeriod_pos (tac : Byte) : 0 < timerPeriod tac := by
  rcases timerPeriod_cases tac with h | h | h | h <;> rw [h] <;> decide

/-- The period depends on TAC bits 1:0 (R521). -/
theorem timerPeriod_congr {tac tac' : Byte} (h : tac.toNat % 4 = tac'.toNat % 4) : timerPeriod tac = timerPeriod tac' := by
  have rate : ∀ t : Byte, (t.extractLsb' 0 2).toNat = t.toNat % 4 := fun t => by
    rw [BitVec.extractLsb'_toNat, Nat.shiftRight_zero]
  unfold timerPeriod
  rw [rate, rate, h]

section
variable {b} (hon : b.timer.tac.getLsbD 2 = true) (hacc : b.timer.timaAcc = 0)
include hon hacc

/-- Below the period only DIV's counter and the accumulator move (R522). -/
theorem TimerBus.run_of_lt_period {n : Nat} (hn : n < timerPeriod b.timer.tac) :
    ∃ w : Word, b.run n = { b with timer := { b.timer with divCounter := w, timaAcc := n } } := by
  induction n with
  | zero =>
    refine ⟨b.timer.divCounter, ?_⟩
    show b = { b with timer := { b.timer with timaAcc := 0 } }
    rw [← hacc]
  | succ n ih =>
    obtain ⟨w, hrun⟩ := ih (by omega)
    rw [b.run_succ, hrun]
    obtain ⟨hoff, -⟩ | ⟨-, -, ht⟩ | ⟨-, hge, -⟩ :=
      TimerBus.tick_cases { b with timer := { b.timer with divCounter := w, timaAcc := n } }
    · exact absurd (hoff.symm.trans hon) Bool.false_ne_true
    · exact ⟨w + 1#16, ht⟩
    · exact absurd hn (Nat.not_lt.2 hge)

/-- A period of ticks is one increment of TIMA, and the accumulator is 0 again (R522). -/
theorem TimerBus.run_period :
    ∃ w : Word, b.run (timerPeriod b.timer.tac) = TimerBus.incTima { b with timer := { b.timer with divCounter := w } } := by
  obtain ⟨p, hp⟩ : ∃ p, timerPeriod b.timer.tac = p + 1 := ⟨_, (Nat.sub_add_cancel (timerPeriod_pos _)).symm⟩
  obtain ⟨w, hrun⟩ := TimerBus.run_of_lt_period hon hacc (n := p) (by omega)
  rw [hp, b.run_succ, hrun]
  obtain ⟨hoff, -⟩ | ⟨-, hlt, -⟩ | ⟨-, -, ht⟩ :=
    TimerBus.tick_cases { b with timer := { b.timer with divCounter := w, timaAcc := p } }
  · exact absurd (hoff.symm.trans hon) Bool.false_ne_true
  · exact absurd hlt (by dsimp only; omega)
  · refine ⟨w + 1#16, ht.trans ?_⟩
    dsimp only
    rw [hp, Nat.sub_self, ← hacc]

/-- Periods before the overflow: TIMA counts them, and IF stays (R522). -/
theorem TimerBus.run_periods {j : Nat} (hj : b.timer.tima.toNat + j < 256) :
    ∃ w : Word, b.run (timerPeriod b.timer.tac * j) =
      { b with timer := { b.timer with divCounter := w, tima := b.timer.tima + BitVec.ofNat 8 j } } := by
  induction j with
  | zero => exact ⟨b.timer.divCounter, by rw [Nat.mul_zero, BitVec.add_zero]; rfl⟩
  | succ j ih =>
    obtain ⟨w, hrun⟩ := ih (by omega)
    obtain ⟨w', hperiod⟩ := TimerBus.run_period
      (b := { b with timer := { b.timer with divCounter := w, tima := b.timer.tima + BitVec.ofNat 8 j } }) hon hacc
    have below : b.timer.tima + BitVec.ofNat 8 j ≠ 0xFF#8 := by bv_omega
    refine ⟨w', ?_⟩
    rw [Nat.mul_succ, b.run_add, hrun]
    refine hperiod.trans ?_
    rw [TimerBus.incTima, if_neg below, BitVec.add_assoc, ← BitVec.ofNat_add]

end

/-! ### The Timer in the machine -/

/-- The Timer's advance is its own registers and IF (R522). -/
theorem State.timerAdvance_eq (s : State) (c : Nat) :
    s.timerAdvance c = { s with timer := (s.timerBus.run c).timer, iflag := (s.timerBus.run c).iflag } := rfl

theorem State.timerAdvance_add (s : State) (m n : Nat) : (s.timerAdvance m).timerAdvance n = s.timerAdvance (m + n) := by
  unfold State.timerAdvance
  rw [TimerBus.run_add]
  rfl

theorem State.ppuAdvance_add (s : State) (m n : Nat) : (s.ppuAdvance m).ppuAdvance n = s.ppuAdvance (m + n) := by
  unfold State.ppuAdvance
  rw [PpuBus.run_add]
  rfl

/-- A write of DIV resets the counter (R526). -/
theorem State.write_div (s : State) (v : Byte) :
    s.write 0xFF04#16 v = { s with timer := { s.timer with divCounter := 0#16 } } := s.write_io v (off := 0x04) rfl

end Sys2Proof.Machine

namespace Sys2Proof.Claims

open Sys2Proof.Machine

/-- Settles O57: the rates by evaluation; the Timer off, below a period, and at its end. -/
theorem timerCountsAtTheSelectedRate : Obligations.TimerCountsAtTheSelectedRate := by
  refine ⟨rfl, rfl, rfl, rfl, fun _ _ => timerPeriod_congr, TimerBus.run_divCounter, fun b n hoff => ?off,
    fun b hon hacc => ⟨fun n hn => ?below, ?period⟩⟩
  case off =>
    obtain ⟨w, hrun⟩ := b.run_disabled hoff n
    rw [hrun]
    exact ⟨rfl, rfl⟩
  case below =>
    obtain ⟨w, hrun⟩ := TimerBus.run_of_lt_period hon hacc hn
    rw [hrun]
  case period =>
    obtain ⟨w, hrun⟩ := TimerBus.run_period hon hacc
    rw [hrun, TimerBus.incTima_timaAcc]
    refine ⟨?_, hacc⟩
    unfold TimerBus.incTima
    split <;> rfl

/-- Settles O58: 255 − TMA periods bring TIMA to 0xFF, one more overflows; a tick before that lies within some period. -/
theorem timerOverflowsEveryPeriod : Obligations.TimerOverflowsEveryPeriod := by
  intro b hon hacc hreload
  have htma : b.timer.tima.toNat = b.timer.tma.toNat := by rw [hreload]
  have hlt := b.timer.tma.isLt
  have overflow : ∃ w : Word, b.run (timerPeriod b.timer.tac * (256 - b.timer.tma.toNat)) =
      { timer := { b.timer with divCounter := w, tima := b.timer.tma }, iflag := b.iflag ||| 0b00100#5 } := by
    obtain ⟨w, hrun⟩ := TimerBus.run_periods hon hacc (j := 255 - b.timer.tma.toNat) (by omega)
    have full : b.timer.tima + BitVec.ofNat 8 (255 - b.timer.tma.toNat) = 0xFF#8 := by
      apply BitVec.eq_of_toNat_eq
      rw [BitVec.toNat_add, BitVec.toNat_ofNat, htma]
      simp only [BitVec.toNat_ofNat]
      omega
    rw [full] at hrun
    obtain ⟨w', hperiod⟩ := TimerBus.run_period
      (b := { b with timer := { b.timer with divCounter := w, tima := 0xFF#8 } }) hon hacc
    refine ⟨w', ?_⟩
    rw [show 256 - b.timer.tma.toNat = 255 - b.timer.tma.toNat + 1 by omega, Nat.mul_succ, b.run_add, hrun]
    exact hperiod.trans (if_pos rfl)
  obtain ⟨w, hrun⟩ := overflow
  rw [hrun]
  refine ⟨rfl, hacc, rfl, fun n hn => ?_⟩
  have hj : n / timerPeriod b.timer.tac < 256 - b.timer.tma.toNat := Nat.div_lt_of_lt_mul hn
  obtain ⟨w, hperiods⟩ := TimerBus.run_periods hon hacc (j := n / timerPeriod b.timer.tac) (by omega)
  obtain ⟨w', hrest⟩ := TimerBus.run_of_lt_period (b := b.run (timerPeriod b.timer.tac * (n / timerPeriod b.timer.tac)))
    (by rw [hperiods]; exact hon) (by rw [hperiods]; exact hacc) (n := n % timerPeriod b.timer.tac)
    (by rw [hperiods]; exact Nat.mod_lt _ (timerPeriod_pos _))
  rw [← Nat.div_add_mod n (timerPeriod b.timer.tac), b.run_add, hrest, hperiods]

/-- Settles O59: DIV is the upper byte of the counter, its write resets all of it, and LDH (n),A is that write. -/
theorem divWriteResetsTheCounter : Obligations.DivWriteResetsTheCounter := by
  intro s v site
  refine ⟨?_, s.write_div v, fun c => ?_, fun hcycles => ?_⟩
  · rw [s.readAt_io site (off := 0x04) rfl]
    show (s.timer.divCounter.extractLsb' 8 8).toNat = _
    have lt := s.timer.divCounter.isLt
    rw [BitVec.extractLsb'_toNat, Nat.shiftRight_eq_div_pow]
    omega
  · rw [State.write_div, State.timerAdvance_eq]
    refine (TimerBus.run_divCounter _ c).trans ?_
    show (0 + c) % 65536 = _
    rw [Nat.zero_add]
  · have run : exec (.ldh_atN8_a 0x04#8) s = ((s.fetched 2).write 0xFF04#16 s.cpu.a).finish (.base 0xE0#8) true := rfl
    rw [State.write_div] at run
    exact ⟨_, run, rfl, cycleCost_of_default hcycles (.base 0xE0#8) true⟩

/-- Settles O60: a run sets bit 2 of IF at most, and runs compose. -/
theorem deviceAdvanceSplits : Obligations.DeviceAdvanceSplits := by
  refine ⟨fun s c => ?_, State.timerAdvance_add, State.ppuAdvance_add⟩
  obtain ⟨d, hd, hrun⟩ := s.timerBus.run_iflag c
  exact ⟨_, d, hd, by rw [State.timerAdvance_eq, hrun]; rfl⟩

end Sys2Proof.Claims
end

section
/-! PROOFS. The PPU's state machine (61_ppu.md R451, R460 to R472, R498): what a tick sets in IF, where a tick leads in the
line, and one frame as 70224 ticks. -/

namespace Sys2Proof.Machine

/-! ### The PPU touches only its own (R451) -/

/-- A change of the PPU that reads nothing but the PPU, and sets bits 0 and 1 of IF at most. -/
def PpuBus.OwnChange (g : PpuBus → PpuBus) : Prop :=
  ∀ p : Ppu, ∃ (q : Ppu) (d : BitVec 5), d &&& 0b11100#5 = 0#5 ∧
    ∀ f, g { ppu := p, iflag := f } = { ppu := q, iflag := f ||| d }

theorem PpuBus.OwnChange.comp {g h : PpuBus → PpuBus} (hg : OwnChange g) (hh : OwnChange h) : OwnChange (h ∘ g) := by
  intro p
  obtain ⟨q, d, hd, hq⟩ := hg p
  obtain ⟨r, e, he, hr⟩ := hh q
  refine ⟨r, d ||| e, ?_, fun f => ?_⟩
  · rw [BitVec.and_comm, BitVec.and_or_distrib_left, BitVec.and_comm, hd, BitVec.and_comm, he, BitVec.or_zero]
  · rw [Function.comp_apply, hq, hr, BitVec.or_assoc]

/-- A change of the registers alone. -/
theorem PpuBus.OwnChange.ofPpu (q : Ppu → Ppu) : OwnChange fun b => { b with ppu := q b.ppu } := fun p =>
  ⟨q p, 0#5, rfl, fun _ => by rw [BitVec.or_zero]⟩

/-- A change of the registers, with bits set in IF under a condition on the registers. -/
theorem PpuBus.OwnChange.ofIf (q : Ppu → Ppu) (c : Ppu → Bool) {d : BitVec 5} (hd : d &&& 0b11100#5 = 0#5) :
    OwnChange fun b => { ppu := q b.ppu, iflag := if c b.ppu then b.iflag ||| d else b.iflag } := by
  intro p
  cases hc : c p with
  | true => exact ⟨q p, d, hd, fun f => by simp [hc]⟩
  | false => exact ⟨q p, 0#5, rfl, fun f => by simp [hc]⟩

/-- A case split on the registers. -/
theorem PpuBus.OwnChange.ite {g h : PpuBus → PpuBus} (c : Ppu → Prop) [DecidablePred c] (hg : OwnChange g)
    (hh : OwnChange h) : OwnChange fun b => if c b.ppu then g b else h b := by
  intro p
  by_cases hc : c p
  · simpa [hc] using hg p
  · simpa [hc] using hh p

theorem PpuBus.ownChange_enterMode (m : PpuMode) : OwnChange (PpuBus.enterMode m) :=
  .ofIf (fun p => { p with mode := m }) (fun p => p.modeIntEnable m) rfl

theorem PpuBus.ownChange_updateCoincidence : OwnChange PpuBus.updateCoincidence :=
  .ofIf (fun p => { p with coincidence := decide (p.ly = p.lyc) })
    (fun p => decide (p.ly = p.lyc) && !p.coincidence && p.statEnable.getLsbD 3) rfl

/-- The end of a line: LY steps, then mode 1 begins, or mode 2, or mode 1 goes on (R461). -/
theorem PpuBus.ownChange_nextLine : OwnChange PpuBus.nextLine := by
  have line : OwnChange fun b => PpuBus.setLy (BitVec.ofNat 8 ((b.ppu.ly.toNat + 1) % 154))
      { b with ppu := { b.ppu with modeCycles := 0 } } :=
    (OwnChange.ofPpu fun p => { p with modeCycles := 0, ly := BitVec.ofNat 8 ((p.ly.toNat + 1) % 154) }).comp
      ownChange_updateCoincidence
  have vblank : OwnChange fun b =>
      { ppu := { (b.enterMode .vblank).ppu with frameReadyLatch := true, windowLine := 0 },
        iflag := (b.enterMode .vblank).iflag ||| 0b00001#5 } :=
    (ownChange_enterMode .vblank).comp
      (OwnChange.ofIf (fun p => { p with frameReadyLatch := true, windowLine := 0 }) (fun _ => true) (d := 0b00001#5) rfl)
  exact line.comp (.ite (·.ly = 144#8) vblank (.ite (·.ly < 144#8) (ownChange_enterMode .oamSearch) (.ofPpu id)))

theorem PpuBus.ownChange_tick (draw : Nat) (vram oam : Ram) : OwnChange (PpuBus.tick draw vram oam) := by
  refine (OwnChange.ofPpu fun p => { p with modeCycles := p.modeCycles + 1 }).comp
    (.ite (·.modeCycles = 456) ownChange_nextLine
      (.ite (fun p => p.mode = .oamSearch ∧ p.modeCycles = 80) (ownChange_enterMode .pixelTransfer)
        (.ite (fun p => p.mode = .pixelTransfer ∧ p.modeCycles = 252)
          ((OwnChange.ofPpu (Ppu.renderScanline draw vram oam)).comp (ownChange_enterMode .hblank)) (.ofPpu id))))

theorem PpuBus.ownChange_run (draw : Nat) (vram oam : Ram) (n : Nat) : OwnChange (PpuBus.run draw vram oam n) := by
  induction n with
  | zero => exact .ofPpu id
  | succ n ih => exact (ownChange_tick draw vram oam).comp ih

/-! ### What a tick sets in IF (R461, R463, R465) -/

variable (b : PpuBus) (m : PpuMode)

theorem PpuBus.enterMode_iflag_vblank : (b.enterMode m).iflag.getLsbD 0 = b.iflag.getLsbD 0 := by
  unfold PpuBus.enterMode
  cases b.ppu.modeIntEnable m <;> simp

theorem PpuBus.enterMode_iflag_stat :
    (b.enterMode m).iflag.getLsbD 1 = (b.iflag.getLsbD 1 || b.ppu.modeIntEnable m) := by
  unfold PpuBus.enterMode
  cases b.ppu.modeIntEnable m <;> simp

/-- LY has come to equal LYC with the flag clear, and STAT bit 6 is set (R466). -/
def Ppu.coincidenceEdge (p : Ppu) : Bool := decide (p.ly = p.lyc) && !p.coincidence && p.statEnable.getLsbD 3

theorem PpuBus.updateCoincidence_iflag_eq :
    b.updateCoincidence.iflag = if b.ppu.coincidenceEdge then b.iflag ||| 0b00010#5 else b.iflag := rfl

theorem PpuBus.updateCoincidence_iflag_vblank : b.updateCoincidence.iflag.getLsbD 0 = b.iflag.getLsbD 0 := by
  rw [PpuBus.updateCoincidence_iflag_eq]
  cases b.ppu.coincidenceEdge <;> simp

theorem PpuBus.updateCoincidence_iflag_stat :
    b.updateCoincidence.iflag.getLsbD 1 = (b.iflag.getLsbD 1 || b.ppu.coincidenceEdge) := by
  rw [PpuBus.updateCoincidence_iflag_eq]
  cases b.ppu.coincidenceEdge <;> simp

/-- The line after the current one, as a byte. -/
def Ppu.nextLy (p : Ppu) : Byte := BitVec.ofNat 8 ((p.ly.toNat + 1) % 154)

theorem Ppu.nextLy_toNat (p : Ppu) : p.nextLy.toNat = (p.ly.toNat + 1) % 154 := by
  rw [Ppu.nextLy, BitVec.toNat_ofNat]
  omega

/-- The PPU at the start of the next line, before the mode of the line is entered (R461). -/
def PpuBus.steppedLine (b : PpuBus) : PpuBus :=
  PpuBus.updateCoincidence { b with ppu := { b.ppu with modeCycles := 0, ly := b.ppu.nextLy } }

/-- The end of a line: line 144 enters mode 1, an earlier one mode 2, and the later ones stay in mode 1 (R461). -/
theorem PpuBus.nextLine_iflag :
    b.nextLine.iflag =
      if b.ppu.nextLy = 144#8 then (b.steppedLine.enterMode .vblank).iflag ||| 0b00001#5
      else if b.ppu.nextLy < 144#8 then (b.steppedLine.enterMode .oamSearch).iflag
      else b.steppedLine.iflag :=
  (apply_ite PpuBus.iflag _ _ _).trans (congrArg _ (apply_ite PpuBus.iflag _ _ _))

/-- Bit 0 of IF after the end of a line: it is set on line 144 (R463). -/
theorem PpuBus.nextLine_iflag_vblank :
    b.nextLine.iflag.getLsbD 0 = (b.iflag.getLsbD 0 || decide (b.ppu.nextLy = 144#8)) := by
  have stepped : b.steppedLine.iflag.getLsbD 0 = b.iflag.getLsbD 0 := PpuBus.updateCoincidence_iflag_vblank _
  rw [PpuBus.nextLine_iflag]
  split_ifs with h144 hlt
  · simp [h144]
  · rw [PpuBus.enterMode_iflag_vblank, stepped]
    simp [h144]
  · rw [stepped]
    simp [h144]

/-- Bit 1 of IF after the end of a line: by the coincidence, or by the mode entered (R465, R466). -/
theorem PpuBus.nextLine_iflag_stat :
    b.nextLine.iflag.getLsbD 1 =
      (b.iflag.getLsbD 1 || Ppu.coincidenceEdge { b.ppu with ly := b.ppu.nextLy } ||
        (decide (b.ppu.nextLy = 144#8) && b.ppu.statEnable.getLsbD 1) ||
        (decide (b.ppu.nextLy < 144#8) && b.ppu.statEnable.getLsbD 2)) := by
  have stepped : b.steppedLine.iflag.getLsbD 1 =
      (b.iflag.getLsbD 1 || Ppu.coincidenceEdge { b.ppu with ly := b.ppu.nextLy }) :=
    PpuBus.updateCoincidence_iflag_stat _
  rw [PpuBus.nextLine_iflag]
  split_ifs with h144 hlt
  · rw [BitVec.getLsbD_or, PpuBus.enterMode_iflag_stat, stepped, h144]
    simp [Ppu.modeIntEnable, PpuBus.steppedLine, PpuBus.updateCoincidence]
  · rw [PpuBus.enterMode_iflag_stat, stepped, decide_eq_false h144, decide_eq_true hlt]
    simp [Ppu.modeIntEnable, PpuBus.steppedLine, PpuBus.updateCoincidence]
  · rw [stepped, decide_eq_false h144, decide_eq_false hlt]
    simp

theorem Ppu.nextLy_eq_144_iff (p : Ppu) : p.nextLy = 144#8 ↔ p.ly = 143#8 := by
  rw [← BitVec.toNat_inj, ← BitVec.toNat_inj, Ppu.nextLy_toNat]
  have := p.ly.isLt
  simp only [BitVec.toNat_ofNat]
  omega

theorem Ppu.nextLy_lt_144_iff (p : Ppu) : p.nextLy < 144#8 ↔ (p.ly.toNat + 1) % 154 < 144 := by
  rw [BitVec.lt_def, Ppu.nextLy_toNat]
  rfl

variable (draw : Nat) (vram oam : Ram)

/-- Bit 0 of IF is set by the one tick that begins line 144 (R463). -/
theorem PpuBus.tick_iflag_vblank :
    (b.tick draw vram oam).iflag.getLsbD 0 =
      (b.iflag.getLsbD 0 || decide (b.ppu.ly = 143#8 ∧ b.ppu.modeCycles = 455)) := by
  rcases b.tick_cases draw vram oam with ⟨hend, ht⟩ | ⟨hne, -, -, ht⟩ | ⟨hne, -, -, ht⟩ | ⟨hne, -, -, ht⟩ <;> rw [ht]
  · have line : b.ppu.nextLy = 144#8 ↔ b.ppu.ly = 143#8 ∧ b.ppu.modeCycles = 455 := by
      simp [b.ppu.nextLy_eq_144_iff, hend]
    exact (PpuBus.nextLine_iflag_vblank _).trans (congrArg _ (decide_eq_decide.2 line))
  · rw [PpuBus.enterMode_iflag_vblank]
    simp [hne]
  · rw [PpuBus.enterMode_iflag_vblank]
    simp [hne]
  · simp [hne]

/-- Bit 1 of IF is set by a tick that enters a mode whose STAT bit is set, or steps LY onto LYC (R465, R466). -/
theorem PpuBus.tick_iflag_stat :
    (b.tick draw vram oam).iflag.getLsbD 1 = true ↔ b.iflag.getLsbD 1 = true ∨
      (b.ppu.statEnable.getLsbD 0 = true ∧ b.ppu.mode = .pixelTransfer ∧ b.ppu.modeCycles = 251) ∨
      (b.ppu.statEnable.getLsbD 1 = true ∧ b.ppu.modeCycles = 455 ∧ b.ppu.ly = 143#8) ∨
      (b.ppu.statEnable.getLsbD 2 = true ∧ b.ppu.modeCycles = 455 ∧ (b.ppu.ly.toNat + 1) % 154 < 144) ∨
      (b.ppu.statEnable.getLsbD 3 = true ∧ b.ppu.modeCycles = 455 ∧ b.ppu.coincidence = false ∧
        (b.ppu.ly.toNat + 1) % 154 = b.ppu.lyc.toNat) := by
  rcases b.tick_cases draw vram oam with ⟨hend, ht⟩ | ⟨hne, hmode, -, ht⟩ | ⟨hne, hmode, hcycles, ht⟩ | ⟨hne, -, hno, ht⟩ <;>
    rw [ht]
  · have lyc : b.ppu.nextLy = b.ppu.lyc ↔ (b.ppu.ly.toNat + 1) % 154 = b.ppu.lyc.toNat := by
      rw [← BitVec.toNat_inj, Ppu.nextLy_toNat]
    rw [PpuBus.nextLine_iflag_stat]
    change (b.iflag.getLsbD 1 || (decide (b.ppu.nextLy = b.ppu.lyc) && !b.ppu.coincidence && b.ppu.statEnable.getLsbD 3) ||
        (decide (b.ppu.nextLy = 144#8) && b.ppu.statEnable.getLsbD 1) ||
        (decide (b.ppu.nextLy < 144#8) && b.ppu.statEnable.getLsbD 2)) = true ↔ _
    simp only [Bool.or_eq_true, Bool.and_eq_true, decide_eq_true_eq, Bool.not_eq_true', lyc,
      b.ppu.nextLy_eq_144_iff, b.ppu.nextLy_lt_144_iff, hend]
    grind
  · rw [PpuBus.enterMode_iflag_stat]
    simp [Ppu.modeIntEnable, hne, hmode]
  · rw [PpuBus.enterMode_iflag_stat]
    simp [Ppu.modeIntEnable, Ppu.renderScanline, hmode, hcycles]
  · simp [hne, hno]

/-! ### The registers LY, LYC and STAT (R466, R470 to R472) -/

theorem Ppu.coincidenceEdge_iff (p : Ppu) :
    p.coincidenceEdge = true ↔ p.ly = p.lyc ∧ p.coincidence = false ∧ p.statEnable.getLsbD 3 = true := by
  simp [Ppu.coincidenceEdge, and_assoc]

/-- A write of LY puts it to 0 and compares anew (R470, D24). -/
theorem State.write_ly (s : State) (v : Byte) :
    s.write 0xFF44#16 v =
      { s with
        ppu := { s.ppu with ly := 0x00#8, coincidence := decide (0x00#8 = s.ppu.lyc) }
        iflag := if Ppu.coincidenceEdge { s.ppu with ly := 0x00#8 } then s.iflag ||| 0b00010#5 else s.iflag } :=
  s.write_io v (off := 0x44) rfl

/-- A write of LYC stores it and compares anew (R471). -/
theorem State.write_lyc (s : State) (v : Byte) :
    s.write 0xFF45#16 v =
      { s with
        ppu := { s.ppu with lyc := v, coincidence := decide (s.ppu.ly = v) }
        iflag := if Ppu.coincidenceEdge { s.ppu with lyc := v } then s.iflag ||| 0b00010#5 else s.iflag } :=
  s.write_io v (off := 0x45) rfl

/-- STAT in numbers (R472, G17). -/
theorem Ppu.statByte_toNat (p : Ppu) :
    p.statByte.toNat = 128 + p.statEnable.toNat * 8 + (if p.coincidence then 4 else 0) + p.mode.bits.toNat := by
  have flag : (BitVec.ofBool p.coincidence).toNat * 4 = if p.coincidence then 4 else 0 := by
    cases p.coincidence <;> rfl
  rw [Ppu.statByte, BitVec.toNat_append, ← Nat.shiftLeft_add_eq_or_of_lt p.mode.bits.isLt, BitVec.toNat_append,
    ← Nat.shiftLeft_add_eq_or_of_lt (BitVec.ofBool p.coincidence).isLt, BitVec.toNat_append,
    ← Nat.shiftLeft_add_eq_or_of_lt p.statEnable.isLt, ← flag]
  simp only [Nat.shiftLeft_eq, BitVec.toNat_ofNat]
  omega

/-! ### Where a tick leads (R461, R462) -/

/-- LY, the coincidence flag and the mode at the end of a line (R461, R466). -/
theorem PpuBus.tick_line (hend : b.ppu.modeCycles = 455) :
    (b.tick draw vram oam).ppu.ly = b.ppu.nextLy ∧
      (b.tick draw vram oam).ppu.coincidence = decide (b.ppu.nextLy = b.ppu.lyc) ∧
      (b.tick draw vram oam).ppu.mode =
        if b.ppu.nextLy = 144#8 then .vblank else if b.ppu.nextLy < 144#8 then .oamSearch else b.ppu.mode := by
  rcases b.tick_cases draw vram oam with ⟨-, ht⟩ | ⟨hne, -⟩ | ⟨hne, -⟩ | ⟨hne, -⟩
  · rw [ht, PpuBus.nextLine_ppu]
    exact ⟨rfl, rfl, rfl⟩
  all_goals exact absurd hend hne

/-- The mode of the table of R462 at tick `c` of line `l`. -/
def PpuMode.IsAt (m : PpuMode) (l c : Nat) : Prop :=
  match m with
  | .vblank => 144 ≤ l
  | .oamSearch => l < 144 ∧ c < 80
  | .pixelTransfer => l < 144 ∧ 80 ≤ c ∧ c < 252
  | .hblank => l < 144 ∧ 252 ≤ c

/-- Only one mode stands at a position. -/
theorem PpuMode.IsAt.unique {m m' : PpuMode} {l c : Nat} (h : m.IsAt l c) (h' : m'.IsAt l c) : m = m' := by
  unfold PpuMode.IsAt at h h'
  cases m <;> cases m' <;> simp only [reduceCtorEq] <;> dsimp only at h h' <;> omega

theorem Ppu.modeIsOfPosition_iff (p : Ppu) : p.modeIsOfPosition ↔ p.mode.IsAt p.ly.toNat p.modeCycles := by
  have table : PpuMode.IsAt (if 144 ≤ p.ly.toNat then .vblank else if p.modeCycles < 80 then .oamSearch
      else if p.modeCycles < 252 then .pixelTransfer else .hblank) p.ly.toNat p.modeCycles := by
    split_ifs with h144 h80 h252
    · exact h144
    · exact ⟨by omega, h80⟩
    · exact ⟨by omega, by omega, h252⟩
    · exact ⟨by omega, by omega⟩
  exact ⟨fun h => by rw [h]; exact table, fun h => h.unique table⟩

/-- The mode stays at the next tick of the line, but for the ends of modes 2 and 3 (R461). -/
theorem PpuMode.IsAt.succ {m : PpuMode} {l c : Nat} (h : m.IsAt l c) (h2 : ¬(m = .oamSearch ∧ c = 79))
    (h3 : ¬(m = .pixelTransfer ∧ c = 251)) : m.IsAt l (c + 1) := by
  unfold PpuMode.IsAt at h ⊢
  cases m with
  | vblank => exact h
  | hblank => exact ⟨h.1, Nat.le_succ_of_le h.2⟩
  | oamSearch => simp only [true_and] at h2; dsimp only at h ⊢; omega
  | pixelTransfer => simp only [true_and] at h3; dsimp only at h ⊢; omega

/-- The position of the PPU in the frame: tick `c` of line `l`, in the mode of the table (R462). -/
structure Ppu.At (p : Ppu) (l c : Nat) : Prop where
  ly : p.ly.toNat = l
  cycles : p.modeCycles = c
  mode : p.mode.IsAt l c

theorem Ppu.At.eq_of_isAt {p : Ppu} {l c : Nat} (h : p.At l c) {m : PpuMode} (hm : m.IsAt l c) : p.mode = m :=
  h.mode.unique hm

theorem Ppu.At.modeIsOfPosition {p : Ppu} {l c : Nat} (h : p.At l c) : p.modeIsOfPosition := by
  obtain ⟨rfl, rfl, hmode⟩ := h
  exact p.modeIsOfPosition_iff.2 hmode

/-- The end of a line leads to the start of the next, from line 153 to line 0 (R461, R498). -/
theorem PpuBus.nextLine_at {c : Nat} (h : b.ppu.mode.IsAt b.ppu.ly.toNat c) :
    b.nextLine.ppu.At ((b.ppu.ly.toNat + 1) % 154) 0 := by
  rw [PpuBus.nextLine_ppu]
  refine ⟨b.ppu.nextLy_toNat, rfl, ?_⟩
  show (if b.ppu.nextLy = 144#8 then PpuMode.vblank else if b.ppu.nextLy < 144#8 then .oamSearch else b.ppu.mode).IsAt _ 0
  simp only [Ppu.nextLy_eq_144_iff, Ppu.nextLy_lt_144_iff]
  split_ifs with h144 hlt
  · rw [h144]
    exact Nat.le_refl 144
  · exact ⟨hlt, by decide⟩
  · have hne : b.ppu.ly.toNat ≠ 143 := fun e => h144 (BitVec.eq_of_toNat_eq e)
    rw [h.unique (m' := .vblank) (show 144 ≤ _ by omega)]
    exact Nat.not_lt.1 hlt

/-- A tick leads to the next position (R461, R462). -/
theorem PpuBus.tick_at {l c : Nat} (h : b.ppu.At l c) :
    (b.tick draw vram oam).ppu.At (if c = 455 then (l + 1) % 154 else l) (if c = 455 then 0 else c + 1) := by
  obtain ⟨rfl, rfl, hmode⟩ := h
  rcases b.tick_cases draw vram oam with ⟨hend, ht⟩ | ⟨hne, hm, hend, ht⟩ | ⟨hne, hm, hend, ht⟩ | ⟨hne, h2, h3, ht⟩ <;>
    rw [ht]
  · rw [if_pos hend, if_pos hend]
    exact PpuBus.nextLine_at _ hmode
  all_goals rw [if_neg hne, if_neg hne]
  · rw [hm] at hmode
    exact ⟨rfl, rfl, hmode.1, by omega, by omega⟩
  · rw [hm] at hmode
    exact ⟨rfl, rfl, hmode.1, by omega⟩
  · exact ⟨rfl, rfl, hmode.succ h2 h3⟩

/-- After `n` ticks from the start of a frame the PPU is `n` ticks further in it, round the frame's 154 lines of 456 ticks. -/
theorem PpuBus.run_at (h : b.ppu.At 0 0) (n : Nat) : (b.run draw vram oam n).ppu.At (n / 456 % 154) (n % 456) := by
  induction n with
  | zero => exact h
  | succ n ih =>
    rw [PpuBus.run_succ]
    have next := PpuBus.tick_at _ draw vram oam ih
    have hl : (n + 1) / 456 % 154 = if n % 456 = 455 then (n / 456 % 154 + 1) % 154 else n / 456 % 154 := by
      split_ifs <;> omega
    have hc : (n + 1) % 456 = if n % 456 = 455 then 0 else n % 456 + 1 := by split_ifs <;> omega
    rwa [hl, hc]

/-! ### A frame (R498) -/

/-- A tick writes the row of its line at the end of mode 3, and no other (R461, R495). -/
theorem PpuBus.tick_frameBuffer :
    (b.tick draw vram oam).ppu.frameBuffer =
      if b.ppu.mode = .pixelTransfer ∧ b.ppu.modeCycles = 251 then
        b.ppu.frameBuffer.setIfInBounds b.ppu.ly.toNat (b.ppu.lineShades draw vram oam)
      else b.ppu.frameBuffer := by
  rcases b.tick_cases draw vram oam with ⟨hend, ht⟩ | ⟨-, hm, -, ht⟩ | ⟨-, hm, hend, ht⟩ | ⟨-, -, h3, ht⟩ <;> rw [ht]
  · rw [if_neg (by omega), PpuBus.nextLine_ppu]
  · rw [if_neg (by simp [hm])]
    rfl
  · rw [if_pos ⟨hm, hend⟩]
    rfl
  · rw [if_neg h3]

theorem PpuBus.tick_row {r : Nat} (hr : r < 144) :
    (b.tick draw vram oam).ppu.frameBuffer[r] =
      if b.ppu.mode = .pixelTransfer ∧ b.ppu.modeCycles = 251 ∧ b.ppu.ly.toNat = r then b.ppu.lineShades draw vram oam
      else b.ppu.frameBuffer[r] := by
  refine (congrArg (fun rows : FrameBuffer => rows[r]) (b.tick_frameBuffer draw vram oam)).trans ?_
  by_cases hend : b.ppu.mode = .pixelTransfer ∧ b.ppu.modeCycles = 251
  · simp only [hend, and_self, if_true, true_and]
    exact Vector.getElem_setIfInBounds hr
  · rw [if_neg hend, if_neg fun hrow => hend ⟨hrow.1, hrow.2.1⟩]

variable (h : b.ppu.At 0 0)
include h

/-- Row `r` is written at tick 456 r + 252 of the frame, and keeps what was rendered then. -/
theorem PpuBus.run_row {r n : Nat} (hr : r < 144) (hn : 456 * r + 252 ≤ n) (hframe : n ≤ 70224) :
    (b.run draw vram oam n).ppu.frameBuffer[r] =
      (b.run draw vram oam (456 * r + 251)).ppu.lineShades draw vram oam := by
  induction n, hn using Nat.le_induction with
  | base =>
    have rendered : (b.run draw vram oam (456 * r + 251)).ppu.At r 251 := by
      have position := b.run_at draw vram oam h (456 * r + 251)
      rwa [show (456 * r + 251) / 456 % 154 = r by omega, show (456 * r + 251) % 456 = 251 by omega] at position
    show (b.run draw vram oam (456 * r + 251 + 1)).ppu.frameBuffer[r] = _
    rw [PpuBus.run_succ draw vram oam (456 * r + 251), PpuBus.tick_row _ _ _ _ hr,
      if_pos ⟨rendered.eq_of_isAt (m := .pixelTransfer) ⟨hr, by decide, by decide⟩, rendered.cycles, rendered.ly⟩]
  | succ n hn ih =>
    obtain ⟨hly, hcycles, -⟩ := b.run_at draw vram oam h n
    rw [PpuBus.run_succ, PpuBus.tick_row _ _ _ _ hr, if_neg (by omega), ih (by omega)]

/-- A flag that only the end of line 143 sets is set at tick 65664 of the frame and not before. -/
theorem PpuBus.run_flag (flag : PpuBus → Bool)
    (htick : ∀ c, flag (c.tick draw vram oam) = (flag c || decide (c.ppu.ly = 143#8 ∧ c.ppu.modeCycles = 455)))
    {n : Nat} (hn : n ≤ 70224) : flag (b.run draw vram oam n) = (flag b || decide (65664 ≤ n)) := by
  induction n with
  | zero => simp [PpuBus.run]
  | succ n ih =>
    obtain ⟨hly, hcycles, -⟩ := b.run_at draw vram oam h n
    have line : (b.run draw vram oam n).ppu.ly = 143#8 ↔ n / 456 % 154 = 143 := by
      rw [← hly, ← BitVec.toNat_inj]; rfl
    have now : ((b.run draw vram oam n).ppu.ly = 143#8 ∧ (b.run draw vram oam n).ppu.modeCycles = 455) ↔ n = 65663 := by
      rw [line, hcycles]
      omega
    have reached : (decide (65664 ≤ n) || decide (n = 65663)) = decide (65664 ≤ n + 1) := by
      rw [Bool.eq_iff_iff, Bool.or_eq_true, decide_eq_true_eq, decide_eq_true_eq, decide_eq_true_eq]
      omega
    rw [PpuBus.run_succ, htick, ih (by omega), Bool.or_assoc, decide_eq_decide.2 now, reached]

end Sys2Proof.Machine

namespace Sys2Proof.Claims

open Sys2Proof.Machine

/-- Settles O49: the advance is a change of the PPU's own, the same whatever IF holds. -/
theorem ppuTouchesOnlyItsOwn : Obligations.PpuTouchesOnlyItsOwn := by
  intro s s' c hppu hvram hoam hdraws
  obtain ⟨p, d, hd, hrun⟩ := PpuBus.ownChange_run s.draws s.vram s.oam c s.ppu
  have advance : ∀ u : State, u.ppu = s.ppu → u.vram = s.vram → u.oam = s.oam → u.draws = s.draws →
      u.ppuAdvance c = { u with ppu := p, iflag := u.iflag ||| d } := by
    intro u hp hv ho hdr
    have run : u.ppuBus.run u.draws u.vram u.oam c = { ppu := p, iflag := u.iflag ||| d } := by
      rw [hv, ho, hdr, State.ppuBus, hp, hrun]
    rw [State.ppuAdvance, run]
    rfl
  exact ⟨p, d, hd, advance s rfl rfl rfl rfl, advance s' hppu.symm hvram.symm hoam.symm hdraws.symm⟩

/-- Settles O50: what the tick at the end of line 143 leaves, and bit 0 of IF at every tick. -/
theorem vBlankIsRaisedAtLine144 : Obligations.VBlankIsRaisedAtLine144 := by
  intro draw vram oam b
  refine ⟨fun ⟨hly, hend⟩ => ?_, fun h => ?_⟩
  · obtain ⟨lyEq, -, modeEq⟩ := b.tick_line draw vram oam hend
    have line := b.ppu.nextLy_eq_144_iff.2 hly
    refine ⟨lyEq.trans line, modeEq.trans (if_pos line), ?_, fun hstat => ?_⟩
    · rw [PpuBus.tick_iflag_vblank, decide_eq_true ⟨hly, hend⟩, Bool.or_true]
    · exact (b.tick_iflag_stat draw vram oam).2 (.inr (.inr (.inl ⟨hstat, hend, hly⟩)))
  · rw [PpuBus.tick_iflag_vblank, decide_eq_false h, Bool.or_false]

/-- Settles O51: soundness by `run_sound`, the mode by the position a tick leads to. -/
theorem modeFollowsTheScanline : Obligations.ModeFollowsTheScanline := by
  intro draw vram oam n b hsound hmode
  refine ⟨PpuBus.run_sound draw vram oam n hsound, ?_⟩
  induction n generalizing b with
  | zero => exact hmode
  | succ n ih =>
    have next := b.tick_at draw vram oam ⟨rfl, rfl, b.ppu.modeIsOfPosition_iff.1 hmode⟩
    exact ih (b.tick draw vram oam) (PpuBus.tick_sound draw vram oam hsound) next.modeIsOfPosition

/-- Settles O52: the position, the two flags and the rows after the ticks of a frame. -/
theorem oneFrameTakes70224Ticks : Obligations.OneFrameTakes70224Ticks := by
  intro draw vram oam b hly hcycles hmode
  have start : b.ppu.At 0 0 := ⟨by rw [hly]; rfl, hcycles, by rw [hmode]; exact ⟨by decide, by decide⟩⟩
  have raised : ∀ n ≤ 70224, (b.run draw vram oam n).iflag.getLsbD 0 = (b.iflag.getLsbD 0 || decide (65664 ≤ n)) :=
    fun _ => b.run_flag draw vram oam start (·.iflag.getLsbD 0) (·.tick_iflag_vblank draw vram oam)
  have latched : ∀ n ≤ 70224,
      (b.run draw vram oam n).ppu.frameReadyLatch = (b.ppu.frameReadyLatch || decide (65664 ≤ n)) :=
    fun _ => b.run_flag draw vram oam start (·.ppu.frameReadyLatch) (PpuBus.tick_frameReadyLatch draw vram oam)
  have before : ∀ n < 65664, decide (65664 ≤ n) = false := fun _ hn => decide_eq_false (Nat.not_le.2 hn)
  have last := b.run_at draw vram oam start 70224
  refine ⟨BitVec.eq_of_toNat_eq last.ly, last.cycles, last.eq_of_isAt (m := .oamSearch) ⟨by decide, by decide⟩,
    (latched _ (Nat.le_refl _)).trans (Bool.or_true _), (raised _ (Nat.le_refl _)).trans (Bool.or_true _),
    fun n hn => ⟨?iflag, ?latch⟩, (raised 65664 (by decide)).trans (Bool.or_true _),
    fun n hn => b.run_row draw vram oam start hn (by omega) (Nat.le_refl _)⟩
  case iflag => rw [raised n (by omega), before n hn, Bool.or_false]
  case latch => rw [latched n (by omega), before n hn, Bool.or_false]

/-- Settles O53: the writes by their registers, the sources of bit 1 by the cases of a tick. -/
theorem statRegisterAndInterruptSources : Obligations.StatRegisterAndInterruptSources := by
  refine ⟨fun s v => ⟨⟨_, _, s.write_ly v, ?lyPpu, ?lyIf⟩, ⟨_, _, s.write_lyc v, rfl, ?lycIf⟩,
      ⟨_, s.write_io v (off := 0x41) rfl, ?statWrite⟩, fun site => ⟨s.readAt_io site (off := 0x44) rfl, ?statRead⟩⟩,
    fun draw vram oam b => ⟨b.tick_iflag_stat draw vram oam, fun hend => ?line⟩⟩
  case lyPpu =>
    exact congrArg (fun c => { s.ppu with ly := 0x00#8, coincidence := c }) (decide_eq_decide.2 eq_comm)
  case lyIf =>
    exact if_congr ((Ppu.coincidenceEdge_iff _).trans (and_congr_left fun _ => eq_comm)) rfl rfl
  case lycIf => exact if_congr (Ppu.coincidenceEdge_iff _) rfl rfl
  case statWrite => rw [BitVec.extractLsb'_toNat, Nat.shiftRight_eq_div_pow]
  case statRead =>
    rw [s.readAt_io site (off := 0x41) rfl]
    refine s.ppu.statByte_toNat.trans ?_
    cases s.ppu.mode <;> rfl
  case line =>
    obtain ⟨hly, hcoincidence, -⟩ := b.tick_line draw vram oam hend
    have line := b.ppu.nextLy_toNat
    refine ⟨hly ▸ line, hcoincidence.trans (decide_eq_decide.2 ?_)⟩
    rw [← BitVec.toNat_inj, line]

end Sys2Proof.Claims
end

section
/-! PROOFS. The rasterizer (61_ppu.md R480 to R495): the row a rendering writes, the pixels of the tile maps in numbers, and the
sprites of a line as the first ten on it, ranked by X. -/

namespace Sys2Proof.Machine

open Sys2Proof.Claims

/-! ### The row of a line (R480, R495) -/

/-- The window is on the line (R486, D27). -/
theorem Ppu.windowOnLine_iff (p : Ppu) :
    p.windowOnLine = true ↔
      p.lcdc.getLsbD 5 = true ∧ p.lcdc.getLsbD 0 = true ∧ p.wy.toNat ≤ p.ly.toNat ∧ p.wx.toNat ≤ 166 := by
  unfold Ppu.windowOnLine Ppu.winEnable Ppu.bgEnable
  simp only [Bool.and_eq_true, decide_eq_true_eq, and_assoc]

section
variable (draw : Nat) (vram oam : Ram) (p : Ppu)

theorem Ppu.lineShades_getElem {col : Nat} (h : col < 160) :
    (p.lineShades draw vram oam)[col] = p.pixel draw vram oam (p.lineSprites oam) col :=
  Vector.getElem_ofFn h

/-! ### Tile pixels in numbers (R481, R482) -/

/-- A bit of a byte as a number. -/
theorem toNat_ofBool_getLsbD (v : Byte) (k : Nat) : (BitVec.ofBool (v.getLsbD k)).toNat = v.toNat / 2 ^ k % 2 := by
  rw [BitVec.toNat_ofBool, BitVec.getLsbD, Nat.testBit_eq_decide_div_mod_eq]
  rcases Nat.mod_two_eq_zero_or_one (v.toNat / 2 ^ k) with h | h <;> simp [h]

/-- Inside the array a byte of VRAM is what the array holds (R83). -/
theorem Ppu.vramByte_of_lt {off : Nat} (h : off < 0x2000) :
    p.vramByte draw vram (0x8000 + off) = vram.read .vram off := by
  unfold Ppu.vramByte
  rw [Nat.add_sub_cancel_left, if_pos h]

/-- A pixel of a tile row inside VRAM: plane 1 is the high bit (R481, D29). -/
theorem Ppu.pixelIndex_toNat {base row : Nat} (h : base + 2 * row + 1 < 0x2000) (px : Nat) :
    (p.pixelIndex draw vram (0x8000 + base) row px).toNat = planePixel vram (base + row * 2) px := by
  have lo := p.vramByte_of_lt draw vram (off := base + row * 2) (by omega)
  have hi := p.vramByte_of_lt draw vram (off := base + row * 2 + 1) (by omega)
  have hlo : 0x8000 + base + 2 * row = 0x8000 + (base + row * 2) := by omega
  have hhi : 0x8000 + base + 2 * row + 1 = 0x8000 + (base + row * 2 + 1) := by omega
  unfold Ppu.pixelIndex planePixel
  dsimp only
  rw [hhi, hlo, lo, hi, BitVec.toNat_append, ← Nat.shiftLeft_add_eq_or_of_lt (BitVec.isLt _), toNat_ofBool_getLsbD,
    toNat_ofBool_getLsbD, Nat.shiftLeft_eq, Nat.pow_one]

/-- The offset of a tile's data, LCDC bit 4 choosing how the index is read (R481). -/
theorem Ppu.tileAddr_eq (idx : Byte) :
    p.tileAddr idx = 0x8000 + (if p.lcdc.getLsbD 4 then idx.toNat * 16
      else if idx.toNat < 128 then 0x1000 + idx.toNat * 16 else idx.toNat * 16) := by
  unfold Ppu.tileAddr
  have lt := idx.isLt
  split
  · rfl
  · rw [BitVec.toInt_eq_toNat_cond]
    split_ifs <;> omega

/-- The pixel at (x, y) of a tile map inside VRAM (R482, R486). -/
theorem Ppu.mapPixel_eq {map x y : Nat} (hmap : map = 0x1800 ∨ map = 0x1C00) (hx : x < 256) (hy : y < 256) :
    (p.pixelIndex draw vram (p.tileAddr (p.vramByte draw vram (0x8000 + map + y / 8 * 32 + x / 8))) (y % 8) (x % 8)).toNat =
      mapPixel vram p map x y := by
  have cell := p.vramByte_of_lt draw vram (off := map + y / 8 * 32 + x / 8) (by omega)
  have lt := (vram.read .vram (map + y / 8 * 32 + x / 8)).isLt
  rw [show 0x8000 + map + y / 8 * 32 + x / 8 = 0x8000 + (map + y / 8 * 32 + x / 8) by omega, cell, Ppu.tileAddr_eq,
    Ppu.pixelIndex_toNat]
  · rfl
  · split_ifs <;> omega

/-- The background's index (R482). -/
theorem Ppu.bgIndex_toNat (col : Nat) :
    (p.bgIndex draw vram col).toNat = mapPixel vram p (if p.lcdc.getLsbD 3 then 0x1C00 else 0x1800)
      ((p.scx.toNat + col) % 256) ((p.scy.toNat + p.ly.toNat) % 256) := by
  have base : p.bgMap = 0x8000 + if p.lcdc.getLsbD 3 then 0x1C00 else 0x1800 := by
    unfold Ppu.bgMap
    split <;> rfl
  unfold Ppu.bgIndex
  dsimp only
  rw [base]
  exact p.mapPixel_eq draw vram (by split <;> simp) (Nat.mod_lt _ (by decide)) (Nat.mod_lt _ (by decide))

/-- The window's index, where the window line is inside the map (R486). -/
theorem Ppu.winIndex_toNat {col : Nat} (hcol : col < 160) (hline : p.windowLine < 256) :
    (p.winIndex draw vram col).toNat = mapPixel vram p (if p.lcdc.getLsbD 6 then 0x1C00 else 0x1800)
      (col + 7 - p.wx.toNat) p.windowLine := by
  have base : p.winMap = 0x8000 + if p.lcdc.getLsbD 6 then 0x1C00 else 0x1800 := by
    unfold Ppu.winMap
    split <;> rfl
  unfold Ppu.winIndex
  dsimp only
  rw [base]
  exact p.mapPixel_eq draw vram (by split <;> simp) (by omega) hline

/-! ### The layer under the sprites (R482, R486, R495) -/

/-- A shade is two bits of the palette (R483). -/
theorem shadeOf_toNat (pal : Byte) (idx : BitVec 2) : (shadeOf pal idx).toNat = pal.toNat / 4 ^ idx.toNat % 4 := by
  unfold shadeOf
  rw [BitVec.extractLsb'_toNat, Nat.shiftRight_eq_div_pow, Nat.pow_mul]

/-- The shade of the layer, before a sprite (R482, R495). -/
def Ppu.underShade (col : Nat) : Shade := if p.bgEnable then shadeOf p.bgp (p.layerIndex draw vram col) else 0#2

section
variable {col : Nat} (hcol : col < 160) (hline : p.lcdc.getLsbD 5 = true → p.windowLine < 256)
include hcol hline

/-- The layer's index by its cases: the background off, the window where it covers, the background (R486). -/
theorem Ppu.layerIndex_toNat : (p.layerIndex draw vram col).toNat = layerPixel vram p col := by
  have covers : (p.windowOnLine && p.windowCovers col) = true ↔
      (p.lcdc.getLsbD 5 = true ∧ p.lcdc.getLsbD 0 = true ∧ p.wy.toNat ≤ p.ly.toNat ∧ p.wx.toNat ≤ 166) ∧
        p.wx.toNat ≤ col + 7 := by
    rw [Bool.and_eq_true, p.windowOnLine_iff, Ppu.windowCovers, decide_eq_true_eq]
  unfold Ppu.layerIndex layerPixel Ppu.bgEnable
  cases hbg : p.lcdc.getLsbD 0 with
  | false => rfl
  | true =>
    rw [if_pos rfl, if_neg (nofun : ¬true = false)]
    by_cases hwin : (p.windowOnLine && p.windowCovers col) = true
    · obtain ⟨⟨hon, -, hwy, hwx⟩, hcovers⟩ := covers.1 hwin
      rw [if_pos hwin, if_pos ⟨hon, hwy, hwx, hcovers⟩]
      exact p.winIndex_toNat draw vram hcol (hline hon)
    · rw [if_neg hwin, if_neg fun ⟨hon, hwy, hwx, hcovers⟩ => hwin (covers.2 ⟨⟨hon, hbg, hwy, hwx⟩, hcovers⟩)]
      exact p.bgIndex_toNat draw vram col

theorem Ppu.underShade_toNat : (p.underShade draw vram col).toNat = layerShade vram p col := by
  unfold Ppu.underShade layerShade
  rw [← p.layerIndex_toNat draw vram hcol hline, ← shadeOf_toNat, Ppu.bgEnable]
  split <;> rfl

end

/-! ### The sprites of a line (R490) -/

/-- An entry is on the line (R490). -/
theorem Ppu.spriteOnLine_iff (k : Nat) :
    p.spriteOnLine oam k = true ↔ (oam.read .oam (4 * k)).toNat ≤ p.ly.toNat + 16 ∧
      p.ly.toNat + 16 < (oam.read .oam (4 * k)).toNat + (if p.lcdc.getLsbD 2 then 16 else 8) := by
  unfold Ppu.spriteOnLine Ppu.objHeight oamByte
  rw [Bool.and_eq_true, decide_eq_true_eq, decide_eq_true_eq, Nat.add_zero]

/-- The entries on the line, in OAM order. -/
def Ppu.onLine : List Nat := (List.range 40).filter fun k => p.spriteOnLine oam k

theorem Ppu.onLine_sorted : (p.onLine oam).Pairwise (· < ·) := List.pairwise_lt_range.filter _

theorem Ppu.mem_onLine {k : Nat} : k ∈ p.onLine oam ↔ k < 40 ∧ p.spriteOnLine oam k = true := by
  rw [Ppu.onLine, List.mem_filter, List.mem_range]

theorem Ppu.selectSprites_eq : p.selectSprites oam = (p.onLine oam).take 10 := rfl

theorem Ppu.selectSprites_sorted : (p.selectSprites oam).Pairwise (· < ·) :=
  (p.onLine_sorted oam).sublist (List.take_sublist 10 _)

/-- An entry on the line that is left out comes after ten that are taken (R490). -/
theorem Ppu.selectSprites_full {k : Nat} (hon : k ∈ p.onLine oam) (hout : k ∉ p.selectSprites oam) :
    (p.selectSprites oam).length = 10 ∧ ∀ j ∈ p.selectSprites oam, j < k := by
  rw [Ppu.selectSprites_eq] at hout ⊢
  have split := List.take_append_drop 10 (p.onLine oam)
  have sorted := p.onLine_sorted oam
  rw [← split] at hon sorted
  have hdrop : k ∈ (p.onLine oam).drop 10 := (List.mem_append.1 hon).resolve_left hout
  have hlen := List.length_pos_of_mem hdrop
  rw [List.length_drop] at hlen
  refine ⟨?_, fun j hj => (List.pairwise_append.1 sorted).2.2 j hj k hdrop⟩
  rw [List.length_take]
  omega

/-! ### The pixel of a sprite (R491) -/

/-- The first tile of a pair: bit 0 of the number is ignored (R491). -/
theorem toNat_and_pair (v : Byte) : (v &&& 0xFE#8).toNat = v.toNat / 2 * 2 := by
  revert v
  decide

/-- A sprite's index in numbers, its tile data inside VRAM whatever its row (R491). -/
theorem Ppu.spriteIndex_toNat (k col : Nat) : (p.spriteIndex draw vram oam k col).toNat = spritePixel vram oam p k col := by
  have tile : (if p.objHeight = 16 then oamByte oam k 2 &&& 0xFE#8 else oamByte oam k 2).toNat =
      if p.lcdc.getLsbD 2 then (oam.read .oam (4 * k + 2)).toNat / 2 * 2 else (oam.read .oam (4 * k + 2)).toNat := by
    unfold Ppu.objHeight
    cases p.lcdc.getLsbD 2 with
    | false => rfl
    | true => exact toNat_and_pair _
  have ly := p.ly.isLt
  have number := (oam.read .oam (4 * k + 2)).isLt
  unfold Ppu.spriteIndex spritePixel
  dsimp only
  rw [Ppu.pixelIndex_toNat, tile]
  · rfl
  · rw [tile]
    unfold Ppu.objHeight
    split_ifs <;> omega

/-! ### The winner of a column (R492) -/

/-- The winner is the candidate of least X, the first of them in the list. -/
theorem Ppu.winningSprite_eq_argmin (sel : List Nat) (col : Nat) :
    p.winningSprite draw vram oam sel col =
      List.argmin (fun k => (oamByte oam k 1).toNat)
        (sel.filter fun k => spriteCovers oam k col && p.spriteIndex draw vram oam k col != 0#2) := by
  unfold Ppu.winningSprite List.argmin
  congr 1
  funext best k
  cases best <;> rfl

end

/-- The first of the least in a rising list: an element as small comes no earlier. -/
theorem argmin_of_sorted {f : Nat → Nat} {l : List Nat} (sorted : l.Pairwise (· < ·)) {m : Nat} (hm : l.argmin f = some m) :
    m ∈ l ∧ ∀ j ∈ l, f m < f j ∨ (f m = f j ∧ m ≤ j) := by
  have mem := List.argmin_mem hm
  refine ⟨mem, fun j hj => (List.le_of_mem_argmin hj hm).lt_or_eq.imp_right fun heq => ⟨heq, ?_⟩⟩
  have first : l.idxOf m ≤ l.idxOf j := List.index_of_argmin hm hj heq.ge
  by_contra hlt
  have hmi := List.idxOf_lt_length_of_mem mem
  have hji := List.idxOf_lt_length_of_mem hj
  obtain heqi | hlti := first.eq_or_lt
  · have same : m = j := by rw [← List.getElem_idxOf hmi, ← List.getElem_idxOf hji]; simp only [heqi]
    omega
  · have rising := List.pairwise_iff_getElem.1 sorted _ _ hmi hji hlti
    rw [List.getElem_idxOf hmi, List.getElem_idxOf hji] at rising
    omega

section
variable (draw : Nat) (vram oam : Ram) (p : Ppu) (col : Nat)

/-- A sprite covers the column with an index other than 0 (R491, R492). -/
def Ppu.qualifies (k : Nat) : Prop :=
  (oam.read .oam (4 * k + 1)).toNat ≤ col + 8 ∧ col + 8 < (oam.read .oam (4 * k + 1)).toNat + 8 ∧
    spritePixel vram oam p k col ≠ 0

theorem Ppu.qualifies_iff (k : Nat) :
    (spriteCovers oam k col && p.spriteIndex draw vram oam k col != 0#2) = true ↔ p.qualifies vram oam col k := by
  unfold spriteCovers oamByte Ppu.qualifies
  rw [← p.spriteIndex_toNat draw vram oam]
  simp only [Bool.and_eq_true, decide_eq_true_eq, bne_iff_ne, ne_eq, and_assoc, ← BitVec.toNat_inj]
  rfl

/-- The column under a winner: its own shade, or the layer where it stands behind (R492, R495). -/
theorem Ppu.pixel_of_none {sel : List Nat} (h : p.winningSprite draw vram oam sel col = none) :
    p.pixel draw vram oam sel col = p.underShade draw vram col := by
  unfold Ppu.pixel
  rw [h]
  rfl

theorem Ppu.pixel_of_some {sel : List Nat} {k : Nat} (h : p.winningSprite draw vram oam sel col = some k) :
    p.pixel draw vram oam sel col =
      if (oam.read .oam (4 * k + 3)).getLsbD 7 = true ∧ (p.layerIndex draw vram col).toNat ≠ 0 then
        p.underShade draw vram col
      else shadeOf (if (oam.read .oam (4 * k + 3)).getLsbD 4 then p.obp1 else p.obp0) (p.spriteIndex draw vram oam k col) := by
  unfold Ppu.pixel
  rw [h]
  refine if_congr ?_ rfl rfl
  rw [Bool.and_eq_true, bne_iff_ne, ne_eq, ← BitVec.toNat_inj]
  rfl

end

end Sys2Proof.Machine

namespace Sys2Proof.Claims

open Sys2Proof.Machine

/-- Settles O54: the row and the counter are what a rendering writes; a column with no sprite and no background is shade 0. -/
theorem renderingWritesOneRow : Obligations.RenderingWritesOneRow := by
  intro draw vram oam p hly
  refine ⟨_, _, rfl, fun n hn hne => Vector.getElem_setIfInBounds_ne hn (Ne.symm hne),
    fun h => Vector.getElem_setIfInBounds_self h, if_congr p.windowOnLine_iff rfl rfl, fun hbg hobj n hn => ?_⟩
  rw [Ppu.lineShades_getElem, Ppu.lineSprites, Ppu.objEnable, hobj]
  refine (p.pixel_of_none draw vram oam n rfl).trans ?_
  rw [Ppu.underShade, Ppu.bgEnable, hbg]
  rfl

/-- Settles O55: with no sprite to draw a column shows the layer. -/
theorem layerPixelsComeFromTheirMaps : Obligations.LayerPixelsComeFromTheirMaps := by
  intro draw vram oam p col hcol hobj hline
  rw [Ppu.lineShades_getElem, Ppu.lineSprites, Ppu.objEnable, hobj]
  exact (congrArg BitVec.toNat (p.pixel_of_none draw vram oam col rfl)).trans (p.underShade_toNat draw vram hcol hline)

/-- Settles O56: the ten first on the line; the first of least X among those that qualify; the two cases of a column. -/
theorem spritesAreSelectedRankedAndMixed : Obligations.SpritesAreSelectedRankedAndMixed := by
  refine ⟨fun oam p => ⟨List.length_take_le _ _, p.selectSprites_sorted oam, fun k hk => ?taken, fun k hk hlo hhi => ?left⟩,
    fun draw vram oam p col => ?winner, fun draw vram oam p col hcol hobj hline => ?mixed⟩
  case taken =>
    obtain ⟨hlt, hon⟩ := (p.mem_onLine oam).1 (List.mem_of_mem_take hk)
    exact ⟨hlt, (p.spriteOnLine_iff oam k).1 hon⟩
  case left =>
    exact p.selectSprites_full oam ((p.mem_onLine oam).2 ⟨hk, (p.spriteOnLine_iff oam k).2 ⟨hlo, hhi⟩⟩)
  case winner =>
    intro candidates
    have same : candidates = (p.selectSprites oam).filter fun k =>
        spriteCovers oam k col && p.spriteIndex draw vram oam k col != 0#2 :=
      List.filter_congr fun k _ => by
        rw [Bool.eq_iff_iff, decide_eq_true_eq, p.qualifies_iff draw vram oam col k]
        rfl
    rw [Ppu.winningSprite_eq_argmin, ← same]
    exact ⟨List.argmin_eq_none, fun k hk => argmin_of_sorted ((p.selectSprites_sorted oam).filter _) hk⟩
  case mixed =>
    rw [Ppu.lineShades_getElem, Ppu.lineSprites, Ppu.objEnable, if_pos hobj]
    have under := p.underShade_toNat draw vram hcol hline
    have layer := p.layerIndex_toNat draw vram hcol hline
    refine ⟨fun hnone => ?_, fun k hk => ?_⟩
    · rw [p.pixel_of_none draw vram oam col hnone, under]
    · rw [p.pixel_of_some draw vram oam col hk, apply_ite BitVec.toNat, under, layer, shadeOf_toNat,
        p.spriteIndex_toNat draw vram oam]

end Sys2Proof.Claims
end
